-- ==== Sys2Proof/Word.lean ====
section
/-! DEFINITION. The word types of the block: a byte and the 19-bit event word. -/

namespace Sys2Proof

/-- A datum of the register bank and a colour (spec/00_scope.md R7, spec/20_memory.md R74). -/
abbrev Byte := BitVec 8

/-- An event packed into a word `w[18:0]` (spec/30_encoding.md R90). -/
abbrev EventWord := BitVec 19

end Sys2Proof
end

