-- ==== Sys2Proof/Config.lean ====
section
/-! DEFINITION. The constants the source fixes (spec/00_scope.md section 3, R1 to R5).
The parameters the source leaves OPEN, with the spec's defaults, are in Sys2Proof/Machine/Params.lean. -/

namespace Sys2Proof.Config

/-- Visible colour clocks of a line (R1). -/
def lineWidth : Nat := 160

/-- Colour clocks of horizontal blank; the value 68 is the spec's derivation (R2). -/
def lineStart : Nat := 68

/-- Colour clocks of one scanline (R2). -/
def lineTotal : Nat := lineStart + lineWidth

/-- The first scanline whose pixels are forwarded (R3). -/
def vblankLines : Nat := 40

/-- The horizontal position at which a pending resume fires (R4). -/
def wsyncResumeHpos : Nat := 6

/-- Colour clocks per CPU cycle (R5). -/
def clockRatio : Nat := 3

end Sys2Proof.Config
end

