-- ==== Sys2Proof/Syntax.lean ====
section
/-! DEFINITION. The events of the block, one constructor per row of spec/opcode_table.json.
A register write carries its whole byte `val`, the strobes too, whose effect ignores it (spec/30_encoding.md R98).
A register read, CLK and INIT carry nothing: R90 calls their other bits ignored. -/

namespace Sys2Proof

/-- An event: INIT, CLK, `W addr val` or `R addr` (spec/00_scope.md section 1, spec/30_encoding.md R101, R102). -/
inductive Instr where
  /-- VSYNC: `W 0x00 val` (42_scan_timing.md R160). -/
  | vsync (val : Byte)
  /-- WSYNC: `W 0x02 val` (42_scan_timing.md R162). -/
  | wsync (val : Byte)
  /-- RSYNC: `W 0x03 val` (42_scan_timing.md R163). -/
  | rsync (val : Byte)
  /-- NUSIZ0: `W 0x04 val` (45_register_writes.md R204). -/
  | nusiz0 (val : Byte)
  /-- NUSIZ1: `W 0x05 val` (45_register_writes.md R205). -/
  | nusiz1 (val : Byte)
  /-- COLUP0: `W 0x06 val` (45_register_writes.md R206). -/
  | colup0 (val : Byte)
  /-- COLUP1: `W 0x07 val` (45_register_writes.md R207). -/
  | colup1 (val : Byte)
  /-- COLUPF: `W 0x08 val` (45_register_writes.md R208). -/
  | colupf (val : Byte)
  /-- COLUBK: `W 0x09 val` (45_register_writes.md R209). -/
  | colubk (val : Byte)
  /-- CTRLPF: `W 0x0a val` (45_register_writes.md R210). -/
  | ctrlpf (val : Byte)
  /-- REFP0: `W 0x0b val` (45_register_writes.md R211). -/
  | refp0 (val : Byte)
  /-- REFP1: `W 0x0c val` (45_register_writes.md R212). -/
  | refp1 (val : Byte)
  /-- PF0: `W 0x0d val` (45_register_writes.md R213). -/
  | pf0 (val : Byte)
  /-- PF1: `W 0x0e val` (45_register_writes.md R214). -/
  | pf1 (val : Byte)
  /-- PF2: `W 0x0f val` (45_register_writes.md R215). -/
  | pf2 (val : Byte)
  /-- RESP0: `W 0x10 val` (45_register_writes.md R216). -/
  | resp0 (val : Byte)
  /-- RESP1: `W 0x11 val` (45_register_writes.md R217). -/
  | resp1 (val : Byte)
  /-- RESM0: `W 0x12 val` (45_register_writes.md R218). -/
  | resm0 (val : Byte)
  /-- RESM1: `W 0x13 val` (45_register_writes.md R219). -/
  | resm1 (val : Byte)
  /-- RESBL: `W 0x14 val` (45_register_writes.md R220). -/
  | resbl (val : Byte)
  /-- GRP0: `W 0x1b val` (45_register_writes.md R221). -/
  | grp0 (val : Byte)
  /-- GRP1: `W 0x1c val` (45_register_writes.md R222). -/
  | grp1 (val : Byte)
  /-- ENAM0: `W 0x1d val` (45_register_writes.md R223). -/
  | enam0 (val : Byte)
  /-- ENAM1: `W 0x1e val` (45_register_writes.md R224). -/
  | enam1 (val : Byte)
  /-- ENABL: `W 0x1f val` (45_register_writes.md R225). -/
  | enabl (val : Byte)
  /-- HMP0: `W 0x20 val` (45_register_writes.md R226). -/
  | hmp0 (val : Byte)
  /-- HMP1: `W 0x21 val` (45_register_writes.md R227). -/
  | hmp1 (val : Byte)
  /-- HMM0: `W 0x22 val` (45_register_writes.md R228). -/
  | hmm0 (val : Byte)
  /-- HMM1: `W 0x23 val` (45_register_writes.md R229). -/
  | hmm1 (val : Byte)
  /-- HMBL: `W 0x24 val` (45_register_writes.md R230). -/
  | hmbl (val : Byte)
  /-- VDELP0: `W 0x25 val` (45_register_writes.md R231). -/
  | vdelp0 (val : Byte)
  /-- VDELP1: `W 0x26 val` (45_register_writes.md R232). -/
  | vdelp1 (val : Byte)
  /-- VDELBL: `W 0x27 val` (45_register_writes.md R233). -/
  | vdelbl (val : Byte)
  /-- RESMP0: `W 0x28 val` (45_register_writes.md R234). -/
  | resmp0 (val : Byte)
  /-- RESMP1: `W 0x29 val` (45_register_writes.md R235). -/
  | resmp1 (val : Byte)
  /-- HMOVE: `W 0x2a val` (45_register_writes.md R236). -/
  | hmove (val : Byte)
  /-- HMCLR: `W 0x2b val` (45_register_writes.md R237). -/
  | hmclr (val : Byte)
  /-- CXCLR: `W 0x2c val` (45_register_writes.md R238). -/
  | cxclr (val : Byte)
  /-- WNOP: `W addr val`, `addr` not in the write map (45_register_writes.md R240). -/
  | wnop (addr val : Byte)
  /-- CXM0P: `R 0x00` (46_register_reads.md R261). -/
  | cxm0p
  /-- CXM1P: `R 0x01` (46_register_reads.md R262). -/
  | cxm1p
  /-- CXP0FB: `R 0x02` (46_register_reads.md R263). -/
  | cxp0fb
  /-- CXP1FB: `R 0x03` (46_register_reads.md R264). -/
  | cxp1fb
  /-- CXM0FB: `R 0x04` (46_register_reads.md R265). -/
  | cxm0fb
  /-- CXM1FB: `R 0x05` (46_register_reads.md R266). -/
  | cxm1fb
  /-- CXBLPF: `R 0x06` (46_register_reads.md R267). -/
  | cxblpf
  /-- CXPPMM: `R 0x07` (46_register_reads.md R268). -/
  | cxppmm
  /-- RZERO: `R addr`, `addr` outside 0x00 .. 0x07 (46_register_reads.md R269). -/
  | rzero (addr : Byte)
  /-- CLK: one colour clock (42_scan_timing.md R150). -/
  | clk
  /-- INIT: chip initialisation (70_reset_and_hazards.md R300). -/
  | init
deriving DecidableEq, Repr

end Sys2Proof
end

