-- ==== Sys2Proof/WellFormed.lean ====
section
/-! DEFINITION. Well-formed events: an unmatched access names an address that no row of its map has. -/

namespace Sys2Proof

/-- The 38 matched write addresses (spec/30_encoding.md R101). -/
def writeAddresses : List Byte :=
  [0x00, 0x02, 0x03, 0x04, 0x05, 0x06, 0x07, 0x08, 0x09, 0x0a, 0x0b, 0x0c, 0x0d, 0x0e, 0x0f,
   0x10, 0x11, 0x12, 0x13, 0x14, 0x1b, 0x1c, 0x1d, 0x1e, 0x1f, 0x20, 0x21, 0x22, 0x23, 0x24,
   0x25, 0x26, 0x27, 0x28, 0x29, 0x2a, 0x2b, 0x2c]

/-- The 8 matched read addresses (spec/30_encoding.md R102). -/
def readAddresses : List Byte := [0x00, 0x01, 0x02, 0x03, 0x04, 0x05, 0x06, 0x07]

/-- WNOP and RZERO apply only where no longer row matches (spec/30_encoding.md R95);
every `val` is legal at every address (R97). -/
def Instr.wellFormed : Instr → Bool
  | .vsync _ => true
  | .wsync _ => true
  | .rsync _ => true
  | .nusiz0 _ => true
  | .nusiz1 _ => true
  | .colup0 _ => true
  | .colup1 _ => true
  | .colupf _ => true
  | .colubk _ => true
  | .ctrlpf _ => true
  | .refp0 _ => true
  | .refp1 _ => true
  | .pf0 _ => true
  | .pf1 _ => true
  | .pf2 _ => true
  | .resp0 _ => true
  | .resp1 _ => true
  | .resm0 _ => true
  | .resm1 _ => true
  | .resbl _ => true
  | .grp0 _ => true
  | .grp1 _ => true
  | .enam0 _ => true
  | .enam1 _ => true
  | .enabl _ => true
  | .hmp0 _ => true
  | .hmp1 _ => true
  | .hmm0 _ => true
  | .hmm1 _ => true
  | .hmbl _ => true
  | .vdelp0 _ => true
  | .vdelp1 _ => true
  | .vdelbl _ => true
  | .resmp0 _ => true
  | .resmp1 _ => true
  | .hmove _ => true
  | .hmclr _ => true
  | .cxclr _ => true
  | .wnop addr _ => !writeAddresses.contains addr
  | .cxm0p => true
  | .cxm1p => true
  | .cxp0fb => true
  | .cxp1fb => true
  | .cxm0fb => true
  | .cxm1fb => true
  | .cxblpf => true
  | .cxppmm => true
  | .rzero addr => !readAddresses.contains addr
  | .clk => true
  | .init => true

end Sys2Proof
end

