-- ==== Sys2Proof/Decode.lean ====
section
/-! DEFINITION. The decoder of the 19-bit event word (spec/30_encoding.md R90 to R102), total, rejecting by name;
after it the encoder, the opcode table's rows, and the host's numbering of an event word. -/

namespace Sys2Proof

/-- `kind`, bits 18:17 (R90). -/
def kindField (w : EventWord) : BitVec 2 := w.extractLsb' 17 2

/-- `rw`, bit 16: 1 = write (R90). -/
def rwField (w : EventWord) : Bool := w.getLsbD 16

/-- `addr`, bits 15:8: the chip-local offset, ADDR_BITS = 8 bits (R90). -/
def addrField (w : EventWord) : Byte := w.extractLsb' 8 8

/-- `val`, bits 7:0 (R90). -/
def valField (w : EventWord) : Byte := w.extractLsb' 0 8

/-- Why a word is no event. -/
inductive DecodeError where
  /-- `kind = 11` spells no event (spec/30_encoding.md R100). -/
  | invalidKind
deriving DecidableEq, Repr

/-- The write map: the whole offset is compared, nothing is masked or mirrored (R101, spec/45_register_writes.md R200). -/
def decodeWrite (addr val : Byte) : Instr :=
  match addr.toNat with
  | 0x00 => .vsync val
  | 0x02 => .wsync val
  | 0x03 => .rsync val
  | 0x04 => .nusiz0 val
  | 0x05 => .nusiz1 val
  | 0x06 => .colup0 val
  | 0x07 => .colup1 val
  | 0x08 => .colupf val
  | 0x09 => .colubk val
  | 0x0a => .ctrlpf val
  | 0x0b => .refp0 val
  | 0x0c => .refp1 val
  | 0x0d => .pf0 val
  | 0x0e => .pf1 val
  | 0x0f => .pf2 val
  | 0x10 => .resp0 val
  | 0x11 => .resp1 val
  | 0x12 => .resm0 val
  | 0x13 => .resm1 val
  | 0x14 => .resbl val
  | 0x1b => .grp0 val
  | 0x1c => .grp1 val
  | 0x1d => .enam0 val
  | 0x1e => .enam1 val
  | 0x1f => .enabl val
  | 0x20 => .hmp0 val
  | 0x21 => .hmp1 val
  | 0x22 => .hmm0 val
  | 0x23 => .hmm1 val
  | 0x24 => .hmbl val
  | 0x25 => .vdelp0 val
  | 0x26 => .vdelp1 val
  | 0x27 => .vdelbl val
  | 0x28 => .resmp0 val
  | 0x29 => .resmp1 val
  | 0x2a => .hmove val
  | 0x2b => .hmclr val
  | 0x2c => .cxclr val
  | _ => .wnop addr val

/-- The read map (R102). -/
def decodeRead (addr : Byte) : Instr :=
  match addr.toNat with
  | 0x00 => .cxm0p
  | 0x01 => .cxm1p
  | 0x02 => .cxp0fb
  | 0x03 => .cxp1fb
  | 0x04 => .cxm0fb
  | 0x05 => .cxm1fb
  | 0x06 => .cxblpf
  | 0x07 => .cxppmm
  | _ => .rzero addr

/-- Decoding an event word, in the five steps of R95. -/
def decode (w : EventWord) : Except DecodeError Instr :=
  match (kindField w).toNat with
  | 0 => .ok (if rwField w then decodeWrite (addrField w) (valField w) else decodeRead (addrField w))
  | 1 => .ok .clk
  | 2 => .ok .init
  | _ => .error .invalidKind

/-! ## The encoder -/

/-- The canonical word of a write (R91). -/
def writeWord (addr val : Byte) : EventWord := BitVec.ofNat 19 (0x10000 + 256 * addr.toNat + val.toNat)

/-- The canonical word of a read (R92). -/
def readWord (addr : Byte) : EventWord := BitVec.ofNat 19 (256 * addr.toNat)

/-- The canonical word of CLK (R93). -/
def clkWord : EventWord := 0x20000

/-- The canonical word of INIT (R94). -/
def initWord : EventWord := 0x40000

/-- The canonical word of an event (R91 to R94, addresses from R101 and R102). -/
def encode : Instr → EventWord
  | .vsync val => writeWord 0x00 val
  | .wsync val => writeWord 0x02 val
  | .rsync val => writeWord 0x03 val
  | .nusiz0 val => writeWord 0x04 val
  | .nusiz1 val => writeWord 0x05 val
  | .colup0 val => writeWord 0x06 val
  | .colup1 val => writeWord 0x07 val
  | .colupf val => writeWord 0x08 val
  | .colubk val => writeWord 0x09 val
  | .ctrlpf val => writeWord 0x0a val
  | .refp0 val => writeWord 0x0b val
  | .refp1 val => writeWord 0x0c val
  | .pf0 val => writeWord 0x0d val
  | .pf1 val => writeWord 0x0e val
  | .pf2 val => writeWord 0x0f val
  | .resp0 val => writeWord 0x10 val
  | .resp1 val => writeWord 0x11 val
  | .resm0 val => writeWord 0x12 val
  | .resm1 val => writeWord 0x13 val
  | .resbl val => writeWord 0x14 val
  | .grp0 val => writeWord 0x1b val
  | .grp1 val => writeWord 0x1c val
  | .enam0 val => writeWord 0x1d val
  | .enam1 val => writeWord 0x1e val
  | .enabl val => writeWord 0x1f val
  | .hmp0 val => writeWord 0x20 val
  | .hmp1 val => writeWord 0x21 val
  | .hmm0 val => writeWord 0x22 val
  | .hmm1 val => writeWord 0x23 val
  | .hmbl val => writeWord 0x24 val
  | .vdelp0 val => writeWord 0x25 val
  | .vdelp1 val => writeWord 0x26 val
  | .vdelbl val => writeWord 0x27 val
  | .resmp0 val => writeWord 0x28 val
  | .resmp1 val => writeWord 0x29 val
  | .hmove val => writeWord 0x2a val
  | .hmclr val => writeWord 0x2b val
  | .cxclr val => writeWord 0x2c val
  | .wnop addr val => writeWord addr val
  | .cxm0p => readWord 0x00
  | .cxm1p => readWord 0x01
  | .cxp0fb => readWord 0x02
  | .cxp1fb => readWord 0x03
  | .cxm0fb => readWord 0x04
  | .cxm1fb => readWord 0x05
  | .cxblpf => readWord 0x06
  | .cxppmm => readWord 0x07
  | .rzero addr => readWord addr
  | .clk => clkWord
  | .init => initWord

/-- A word with every bit that R90 calls ignored written as 0. -/
def canonicalWord (w : EventWord) : EventWord :=
  match (kindField w).toNat with
  | 0 => if rwField w then writeWord (addrField w) (valField w) else readWord (addrField w)
  | 1 => clkWord
  | 2 => initWord
  | _ => w

/-- The row of spec/opcode_table.json an event belongs to: its "match" and its "mask". -/
def Instr.tableRow : Instr → EventWord × EventWord
  | .vsync _ => (0x10000, 0x7FF00)
  | .wsync _ => (0x10200, 0x7FF00)
  | .rsync _ => (0x10300, 0x7FF00)
  | .nusiz0 _ => (0x10400, 0x7FF00)
  | .nusiz1 _ => (0x10500, 0x7FF00)
  | .colup0 _ => (0x10600, 0x7FF00)
  | .colup1 _ => (0x10700, 0x7FF00)
  | .colupf _ => (0x10800, 0x7FF00)
  | .colubk _ => (0x10900, 0x7FF00)
  | .ctrlpf _ => (0x10A00, 0x7FF00)
  | .refp0 _ => (0x10B00, 0x7FF00)
  | .refp1 _ => (0x10C00, 0x7FF00)
  | .pf0 _ => (0x10D00, 0x7FF00)
  | .pf1 _ => (0x10E00, 0x7FF00)
  | .pf2 _ => (0x10F00, 0x7FF00)
  | .resp0 _ => (0x11000, 0x7FF00)
  | .resp1 _ => (0x11100, 0x7FF00)
  | .resm0 _ => (0x11200, 0x7FF00)
  | .resm1 _ => (0x11300, 0x7FF00)
  | .resbl _ => (0x11400, 0x7FF00)
  | .grp0 _ => (0x11B00, 0x7FF00)
  | .grp1 _ => (0x11C00, 0x7FF00)
  | .enam0 _ => (0x11D00, 0x7FF00)
  | .enam1 _ => (0x11E00, 0x7FF00)
  | .enabl _ => (0x11F00, 0x7FF00)
  | .hmp0 _ => (0x12000, 0x7FF00)
  | .hmp1 _ => (0x12100, 0x7FF00)
  | .hmm0 _ => (0x12200, 0x7FF00)
  | .hmm1 _ => (0x12300, 0x7FF00)
  | .hmbl _ => (0x12400, 0x7FF00)
  | .vdelp0 _ => (0x12500, 0x7FF00)
  | .vdelp1 _ => (0x12600, 0x7FF00)
  | .vdelbl _ => (0x12700, 0x7FF00)
  | .resmp0 _ => (0x12800, 0x7FF00)
  | .resmp1 _ => (0x12900, 0x7FF00)
  | .hmove _ => (0x12A00, 0x7FF00)
  | .hmclr _ => (0x12B00, 0x7FF00)
  | .cxclr _ => (0x12C00, 0x7FF00)
  | .wnop _ _ => (0x10000, 0x70000)
  | .cxm0p => (0x00000, 0x7FF00)
  | .cxm1p => (0x00100, 0x7FF00)
  | .cxp0fb => (0x00200, 0x7FF00)
  | .cxp1fb => (0x00300, 0x7FF00)
  | .cxm0fb => (0x00400, 0x7FF00)
  | .cxm1fb => (0x00500, 0x7FF00)
  | .cxblpf => (0x00600, 0x7FF00)
  | .cxppmm => (0x00700, 0x7FF00)
  | .rzero _ => (0x00000, 0x70000)
  | .clk => (0x20000, 0x60000)
  | .init => (0x40000, 0x60000)

/-! ## The host's numbering -/

/-- The event word whose bits are the number `w`, of which the host gives `nbits`; a number with a bit above
bit 18 is no event word. An event is one word of 19 bits, so bit 0 of the number is bit 0 of the word. -/
def tableWord? (nbits w : Nat) : Option EventWord :=
  let n := w % 2 ^ nbits
  if n < 2 ^ 19 then some (BitVec.ofNat 19 n) else none

/-- What the decoder reads from an instruction whose bits are `w`, numbered as spec/opcode_table.json numbers them. -/
def decodeTableWord (nbits w : Nat) : Option Instr :=
  match tableWord? nbits w with
  | some word =>
    match decode word with
    | .ok i => some i
    | .error _ => none
  | none => none

end Sys2Proof
end

