-- ==== Sys2Proof/Machine/State.lean ====
section
/-! DEFINITION. The state of the machine, as plain data: the block's own state, one "chip" aggregate
(spec/10_state.md R20 to R41, R44), and the model's wires to the outside world; with it the reasons a step can stop. -/

namespace Sys2Proof.Machine

/-- The variant tag of an object record (spec/10_state.md R20). -/
inductive Variant where
  | missile
  | ball
  | player
  | playfield
deriving DecidableEq, Repr

/-- The six object records by name (R20). -/
inductive ObjId where
  | P0
  | P1
  | M0
  | M1
  | BL
  | PF
deriving DecidableEq, Repr

/-- The fields all six records share (R20 to R29). A set of decoder positions is a list in rising order. -/
structure GraphicsObject where
  /-- selects the colour lookup (R20) -/
  variant : Variant
  /-- positions at which the width countdown reloads (R21) -/
  decoders : List Nat
  /-- pixels of a span (R22) -/
  width : Nat
  /-- remaining pixels of the active span, 0 = inactive (R23) -/
  widthCnt : Nat
  /-- horizontal position counter (R24) -/
  posCnt : Nat
  /-- current bitmap byte (R25) -/
  graphics : Byte
  /-- latched bitmap byte (R25) -/
  delayedGraphics : Byte
  /-- selects `delayedGraphics` for the colour lookup (R25) -/
  delayed : Bool
  /-- countdown to the copy into `delayedGraphics`, 0 = none pending (R26) -/
  delayCnt : Nat
  /-- raw motion register byte (R27) -/
  offset : Byte
  /-- colour index (R28) -/
  color : Byte
  /-- horizontal mirroring (R29) -/
  reflected : Bool
deriving DecidableEq, Repr

/-- The playfield record: the shared fields and its own (R37 to R39). -/
structure Playfield extends GraphicsObject where
  /-- pattern registers `PF.reg[0..2]` (R37) -/
  reg0 : Byte
  reg1 : Byte
  reg2 : Byte
  /-- score colouring (R38) -/
  scoreMode : Bool
  scoreColorLeft : Byte
  scoreColorRight : Byte
  /-- compositor order, read by the Compositor only (R39) -/
  priority : Bool
deriving DecidableEq, Repr

/-- The fifteen collision latches, in the source's order (R40). -/
structure Collisions where
  m0p1 : Bool
  m0p0 : Bool
  m1p0 : Bool
  m1p1 : Bool
  p0pf : Bool
  p0bl : Bool
  p1pf : Bool
  p1bl : Bool
  m0pf : Bool
  m0bl : Bool
  m1pf : Bool
  m1bl : Bool
  blpf : Bool
  p0p1 : Bool
  m0m1 : Bool
deriving DecidableEq, Repr

/-- The latches by name (spec/10_state.md R40). -/
inductive Latch where
  | m0p1
  | m0p0
  | m1p0
  | m1p1
  | p0pf
  | p0bl
  | p1pf
  | p1bl
  | m0pf
  | m0bl
  | m1pf
  | m1bl
  | blpf
  | p0p1
  | m0m1
deriving DecidableEq, Repr

/-- All state of the block: one explicit "chip" aggregate (R44). -/
structure Chip where
  p0 : GraphicsObject
  p1 : GraphicsObject
  m0 : GraphicsObject
  m1 : GraphicsObject
  bl : GraphicsObject
  pf : Playfield
  /-- horizontal colour-clock counter, 0 .. 227 (R30) -/
  horCnt : Nat
  /-- scanline index, unbounded (R31) -/
  verCnt : Nat
  /-- the accepted vertical-sync level (R32) -/
  vsyncing : Bool
  /-- the pending-resume flag (R33) -/
  wsyncNextLine : Bool
  backgroundColor : Byte
  /-- the level toward the CPU core, 1 = the CPU must not advance (R35) -/
  halt : Bool
  /-- 0 until the first vertical-sync rising edge (R36) -/
  frameArmed : Bool
  /-- the collision matrix (R40) -/
  cx : Collisions
  /-- reserved store-only bytes `resmp[0]`, `resmp[1]` (R41) -/
  resmp0 : Byte
  resmp1 : Byte
deriving DecidableEq, Repr

/-- An output event of the block (spec/60_exceptions.md R282). -/
inductive Output where
  /-- one forwarded pixel (spec/42_scan_timing.md R156) -/
  | pixel (x y : Nat) (color : Byte)
  /-- the frame-boundary notification (42 R161) -/
  | framePresent
  /-- the CPU core is signalled to resume (42 R153) -/
  | resume
deriving DecidableEq, Repr

/-- One event as the outside world presents it: its word, and the value of the CPU core's cycle counter at that
moment, the free side input of the five position resets, which is not part of the word
(spec/30_encoding.md R90, spec/20_memory.md R80; log entries 1 and 3). -/
structure BusEvent where
  word : EventWord
  cyc : Nat
deriving DecidableEq, Repr

/-- The state of the machine: the block, and four fields of the MODEL's own that are no state of the block
(spec/10_state.md R45): what has yet to come in, the sampled `cpu_cycles`, and what has gone out. -/
structure State where
  chip : Chip
  /-- the sampled `cpu_cycles` input, any natural number (log entry 3) -/
  cpuCycles : Nat
  /-- the events not yet applied, oldest first (log entry 1) -/
  inputs : List BusEvent
  /-- the output events emitted so far, newest first (log entry 4) -/
  outputs : List Output
  /-- the bytes returned by R events so far, newest first (log entry 4) -/
  reads : List Byte
deriving DecidableEq, Repr

/-- The reasons the machine stops with a fault: none. The block raises no exception and has no fault state
(spec/60_exceptions.md R280, R281); nothing raises one, which is safe. -/
inductive Fault where
deriving DecidableEq, Repr

/-- The reasons the model gives an event no step. -/
inductive Refusal where
  /-- Raised by `exec` for an event that has no meaning yet, by name (no arm raises it). Safe. -/
  | notModelled (mnemonic : String)
  /-- Raised by `step` for a word with `kind = 11`, which spells no event (spec/30_encoding.md R100). Safe. -/
  | invalidEventWord (w : EventWord)
deriving DecidableEq, Repr

/-- What a meaning answers. -/
abbrev Result := Host.Outcome State Fault Refusal

/-! ## Reset -/

/-- `init()` of one object record (spec/10_state.md R50, R51): everything zero but the width and the decoder set. -/
def GraphicsObject.init (variant : Variant) (width : Nat) : GraphicsObject where
  variant := variant
  decoders := [0]
  width := width
  widthCnt := 0
  posCnt := 0
  graphics := 0x00
  delayedGraphics := 0x00
  delayed := false
  delayCnt := 0
  offset := 0x00
  color := 0x00
  reflected := false

/-- The playfield record after INIT (R50 to R52). -/
def Playfield.init : Playfield where
  toGraphicsObject := GraphicsObject.init .playfield Config.lineWidth
  reg0 := 0x00
  reg1 := 0x00
  reg2 := 0x00
  scoreMode := false
  scoreColorLeft := 0x00
  scoreColorRight := 0x00
  priority := false

/-- Every latch 0: the effect of `clear()` (spec/43_collision.md R182, spec/10_state.md R54). -/
def Collisions.clear : Collisions where
  m0p1 := false
  m0p0 := false
  m1p0 := false
  m1p1 := false
  p0pf := false
  p0bl := false
  p1pf := false
  p1bl := false
  m0pf := false
  m0bl := false
  m1pf := false
  m1bl := false
  blpf := false
  p0p1 := false
  m0m1 := false

/-- The state INIT establishes (spec/10_state.md R50 to R55). -/
def Chip.init : Chip where
  p0 := GraphicsObject.init .player 8
  p1 := GraphicsObject.init .player 8
  m0 := GraphicsObject.init .missile 1
  m1 := GraphicsObject.init .missile 1
  bl := GraphicsObject.init .ball 1
  pf := Playfield.init
  horCnt := 0
  verCnt := 0
  vsyncing := false
  wsyncNextLine := false
  backgroundColor := 0x00
  halt := false
  frameArmed := false
  cx := Collisions.clear
  resmp0 := 0x00
  resmp1 := 0x00

/-- The machine right after reset: the block in the INIT state (spec/70_reset_and_hazards.md R301), no event
waiting and nothing emitted (log entries 1, 3, 4, 7). -/
def State.reset : State where
  chip := Chip.init
  cpuCycles := 0
  inputs := []
  outputs := []
  reads := []

end Sys2Proof.Machine
end

