-- ==== Sys2Proof/Machine/Params.lean ====
section
/-! DEFINITION. The named parameters that the source leaves open, each at the default the spec's rules use
(spec/00_scope.md section 3; spec/92_eei_decisions.md, last table). Another reading of the source is ONE change. The two parameters about the fields of `val`, `VAL_FIELDS`
and `NUSIZ_TABLE`, are in Sys2Proof/Machine/Operands.lean; `ADDR_BITS` = 8 is the width of `addr` in the event word. -/

namespace Sys2Proof.Machine

/-- `DELAY_LEN`: the value loaded into `delay_cnt`. DESIGN CHOICE of the spec (92 D4; log entry 11). -/
def delayLen : Nat := Config.lineWidth

/-- `RESET_CORR_COND(hor_cnt, cyc)`: when the position-reset correction applies.
DESIGN CHOICE of the spec (92 D2; log entry 10). -/
def resetCorrCond (horCnt _cyc : Nat) : Bool := horCnt == Config.lineStart - 1

/-- `CX_READ_MAP`: read address to the latches of bits 7 and 6 (spec/46_register_reads.md R260); `none` reads 0.
PRESUMED by the spec (92 D12, 93 GK8; log entry 15). -/
def cxReadMap (addr : Byte) : Option Latch × Option Latch :=
  match addr.toNat with
  | 0x00 => (some .m0p1, some .m0p0)
  | 0x01 => (some .m1p0, some .m1p1)
  | 0x02 => (some .p0pf, some .p0bl)
  | 0x03 => (some .p1pf, some .p1bl)
  | 0x04 => (some .m0pf, some .m0bl)
  | 0x05 => (some .m1pf, some .m1bl)
  | 0x06 => (some .blpf, none)
  | 0x07 => (some .p0p1, some .m0m1)
  | _ => (none, none)

end Sys2Proof.Machine
end

