-- ==== Sys2Proof/Machine/Flags.lean ====
section
/-! DEFINITION. The block's flags: the collision matrix (spec/43_collision.md) and its packing into a read byte
(spec/46_register_reads.md R260). The colours of one colour clock, which set the flags, are defined here too. -/

namespace Sys2Proof.Machine

/-- The colour-or-none value each object's tick returned in one colour clock (`c[o]`; `none` is "no color",
spec/00_scope.md R7). -/
structure Colors where
  p0 : Option Byte
  p1 : Option Byte
  m0 : Option Byte
  m1 : Option Byte
  bl : Option Byte
  pf : Option Byte
deriving DecidableEq, Repr

def Colors.get (c : Colors) : ObjId → Option Byte
  | .P0 => c.p0
  | .P1 => c.p1
  | .M0 => c.m0
  | .M1 => c.m1
  | .BL => c.bl
  | .PF => c.pf

/-- The two members of each pair; their order carries no meaning (spec/43_collision.md R180). -/
def Latch.members : Latch → ObjId × ObjId
  | .m0p1 => (.M0, .P1)
  | .m0p0 => (.M0, .P0)
  | .m1p0 => (.M1, .P0)
  | .m1p1 => (.M1, .P1)
  | .p0pf => (.P0, .PF)
  | .p0bl => (.P0, .BL)
  | .p1pf => (.P1, .PF)
  | .p1bl => (.P1, .BL)
  | .m0pf => (.M0, .PF)
  | .m0bl => (.M0, .BL)
  | .m1pf => (.M1, .PF)
  | .m1bl => (.M1, .BL)
  | .blpf => (.BL, .PF)
  | .p0p1 => (.P0, .P1)
  | .m0m1 => (.M0, .M1)

def Collisions.get (cx : Collisions) : Latch → Bool
  | .m0p1 => cx.m0p1
  | .m0p0 => cx.m0p0
  | .m1p0 => cx.m1p0
  | .m1p1 => cx.m1p1
  | .p0pf => cx.p0pf
  | .p0bl => cx.p0bl
  | .p1pf => cx.p1pf
  | .p1bl => cx.p1bl
  | .m0pf => cx.m0pf
  | .m0bl => cx.m0bl
  | .m1pf => cx.m1pf
  | .m1bl => cx.m1bl
  | .blpf => cx.blpf
  | .p0p1 => cx.p0p1
  | .m0m1 => cx.m0m1

/-- Both members of the pair emitted a colour, whatever the colour (43 R181). -/
def Latch.overlaps (l : Latch) (c : Colors) : Bool :=
  (c.get l.members.1).isSome && (c.get l.members.2).isSome

/-- A latch after one update: set where the pair overlaps, never cleared (43 R181). -/
def Collisions.latched (cx : Collisions) (c : Colors) (l : Latch) : Bool := cx.get l || l.overlaps c

/-- `UpdateCollisions(c)` (43 R181). -/
def Collisions.update (cx : Collisions) (c : Colors) : Collisions where
  m0p1 := cx.latched c .m0p1
  m0p0 := cx.latched c .m0p0
  m1p0 := cx.latched c .m1p0
  m1p1 := cx.latched c .m1p1
  p0pf := cx.latched c .p0pf
  p0bl := cx.latched c .p0bl
  p1pf := cx.latched c .p1pf
  p1bl := cx.latched c .p1bl
  m0pf := cx.latched c .m0pf
  m0bl := cx.latched c .m0bl
  m1pf := cx.latched c .m1pf
  m1bl := cx.latched c .m1bl
  blpf := cx.latched c .blpf
  p0p1 := cx.latched c .p0p1
  m0m1 := cx.latched c .m0m1

/-- A slot of the read map: the latch, or 0 where it has none. -/
def Collisions.slot (cx : Collisions) : Option Latch → Bool
  | some l => cx.get l
  | none => false

/-- The returned byte `128·a + 64·b`; bits 5..0 are 0 (46 R260). -/
def packRead (a b : Bool) : Byte := (if a then 0x80 else 0x00) ||| (if b then 0x40 else 0x00)

/-- `RegRead(addr)` (spec/20_memory.md R73): the byte of an address, 0x00 where no row has it. It never fails. -/
def Collisions.regRead (cx : Collisions) (addr : Byte) : Byte :=
  packRead (cx.slot (cxReadMap addr).1) (cx.slot (cxReadMap addr).2)

end Sys2Proof.Machine
end

