-- ==== Sys2Proof/Machine/Compositor.lean ====
section
/-! DEFINITION. The priority compositor, a pure function of seven inputs (spec/44_compositor.md). -/

namespace Sys2Proof.Machine

/-- The evaluation order the playfield-priority flag selects; later entries win (R191, R192). -/
def compositeOrder (prio : Bool) : List ObjId :=
  if prio then [.P1, .M1, .P0, .M0, .PF, .BL] else [.PF, .BL, .P1, .M1, .P0, .M0]

/-- `Composite(c, prio, bg)` (R190): each emitted colour overwrites the running output, which starts as `bg`. -/
def composite (c : Colors) (prio : Bool) (bg : Byte) : Byte :=
  (compositeOrder prio).foldl (fun out o => (c.get o).getD out) bg

end Sys2Proof.Machine
end

