-- ==== Sys2Proof/Machine/Operands.lean ====
section
/-! DEFINITION. The operands of a register write: the fields of `val` (the parameter `VAL_FIELDS`,
spec/30_encoding.md R96) and the count/size table (the parameter `NUSIZ_TABLE`, spec/45_register_writes.md R203). -/

namespace Sys2Proof.Machine

/-! The fields of `val` of R96. Only the sync level's place is the source's; the
others are PRESUMED by the spec (93 GK2 to GK6; log entry 13). Bits not named are ignored (30 R97; log entry 22). -/

/-- 0x00: the sync level, "bit1 of val". -/
def syncLevel (val : Byte) : Bool := val.getLsbD 1

/-- 0x04, 0x05: the count/size code, `val[2:0]` (45 R202). -/
def nusizCode (val : Byte) : BitVec 3 := val.extractLsb' 0 3

/-- 0x04, 0x05 (missile) and 0x0a (ball): the width `1 << val[5:4]` (45 R202, R210). -/
def spanWidth (val : Byte) : Nat := 1 <<< (val.extractLsb' 4 2).toNat

/-- 0x0a: playfield reflect, `val[0]` (45 R210). -/
def ctrlReflect (val : Byte) : Bool := val.getLsbD 0

/-- 0x0a: score mode, `val[1]`. -/
def ctrlScore (val : Byte) : Bool := val.getLsbD 1

/-- 0x0a: playfield priority, `val[2]`. -/
def ctrlPriority (val : Byte) : Bool := val.getLsbD 2

/-- 0x0b, 0x0c: player reflect, `val[3]` (45 R211, R212). -/
def reflectBit (val : Byte) : Bool := val.getLsbD 3

/-- 0x1d to 0x1f: enable, `val[1]` (45 R223 to R225). -/
def enableBit (val : Byte) : Bool := val.getLsbD 1

/-- 0x25 to 0x27: delayed-graphics enable, `val[0]` (45 R231 to R233). -/
def delayBit (val : Byte) : Bool := val.getLsbD 0

/-- The motion nibble `offset[7:4]` (40 R123; the source's). -/
def motionNibble (offset : Byte) : BitVec 4 := offset.extractLsb' 4 4

/-- `NUSIZ_TABLE`: code to (decoder set, player width) (spec/45_register_writes.md R203). Rows 3 and 6 are the
source's (the width of row 3 is not); the others are PRESUMED by the spec (93 GK2; log entry 12). -/
def nusizTable (code : BitVec 3) : List Nat × Nat :=
  match code.toNat with
  | 0 => ([0], 8)
  | 1 => ([0, 16], 8)
  | 2 => ([0, 32], 8)
  | 3 => ([0, 16, 32], 8)
  | 4 => ([0, 64], 8)
  | 5 => ([0], 16)
  | 6 => ([0, 32, 64], 32)
  | _ => ([0], 32)

end Sys2Proof.Machine
end

