-- ==== Sys2Proof/Machine/Graphics.lean ====
section
/-! DEFINITION. The operations of one object record (spec/40_graphics_object.md): the setters, the colour lookups of
Player, Missile and Ball, the position reset and the motion apply. The tick is in Sys2Proof/Machine/Ops.lean, after
the playfield's lookup. -/

namespace Sys2Proof.Machine

/-! ## Setters (R111, R112, R117) -/

def GraphicsObject.setDecoders (s : List Nat) (o : GraphicsObject) : GraphicsObject := { o with decoders := s }

/-- The width setter clamps a span in progress; the clamp is the spec's DESIGN CHOICE (92 D17; log entry 18). -/
def GraphicsObject.setWidth (n : Nat) (o : GraphicsObject) : GraphicsObject :=
  { o with width := n, widthCnt := min o.widthCnt n }

/-- `setGraphics` also arms the delay latch (R112). -/
def GraphicsObject.setGraphics (b : Byte) (o : GraphicsObject) : GraphicsObject :=
  { o with graphics := b, delayCnt := delayLen }

/-- `setEnabled` is `setGraphics` of all-ones or all-zeros (R112). -/
def GraphicsObject.setEnabled (e : Bool) (o : GraphicsObject) : GraphicsObject :=
  o.setGraphics (if e then 0xFF else 0x00)

def GraphicsObject.setOffset (b : Byte) (o : GraphicsObject) : GraphicsObject := { o with offset := b }

def GraphicsObject.setColor (b : Byte) (o : GraphicsObject) : GraphicsObject := { o with color := b }

def GraphicsObject.setDelayed (d : Bool) (o : GraphicsObject) : GraphicsObject := { o with delayed := d }

def GraphicsObject.setReflected (r : Bool) (o : GraphicsObject) : GraphicsObject := { o with reflected := r }

/-! ## Colour lookups (R114, R115) -/

/-- The byte the lookup sees (R25). -/
def GraphicsObject.source (o : GraphicsObject) : Byte := if o.delayed then o.delayedGraphics else o.graphics

/-- The bitmap bit of the current countdown; the multiplication comes before the division (R114). -/
def GraphicsObject.playerIndex (o : GraphicsObject) : Nat :=
  let idx := 8 * (o.widthCnt - 1) / o.width
  if o.reflected then 7 - idx else idx

/-- `getColor` of a Player (R114). -/
def GraphicsObject.playerColor (o : GraphicsObject) : Option Byte :=
  if o.source.getLsbD o.playerIndex then some o.color else none

/-- `getColor` of a Missile or the Ball: the enable decides, no bit is indexed (R115; 90 C1; log entry 16). -/
def GraphicsObject.missileBallColor (o : GraphicsObject) : Option Byte :=
  if o.source ≠ 0x00 then some o.color else none

/-! ## Position reset and motion (R121, R123) -/

/-- The intermediate `p` of the position reset, an integer (R121). -/
def resetPoint (horCnt cyc : Nat) : Int :=
  let p : Int := 3 * cyc - 1
  if resetCorrCond horCnt cyc then p + horCnt - Config.lineStart else p

/-- `reset(obj, cyc)`: writes `pos_cnt` only; the result is reduced mod 160 (R121; log entry 10). -/
def GraphicsObject.resetPos (horCnt cyc : Nat) (o : GraphicsObject) : GraphicsObject :=
  { o with posCnt := ((Config.lineWidth - resetPoint horCnt cyc) % (Config.lineWidth : Int)).toNat }

/-- `move(obj)`: the signed motion nibble moves `pos_cnt`, mod 160; the register keeps its value (R123). -/
def GraphicsObject.move (o : GraphicsObject) : GraphicsObject :=
  let n := (motionNibble o.offset).toNat
  if n < 8 then { o with posCnt := (o.posCnt + n) % Config.lineWidth }
  else { o with posCnt := (((o.posCnt : Int) - (16 - n)) % (Config.lineWidth : Int)).toNat }

end Sys2Proof.Machine
end

