-- ==== Sys2Proof/Machine/Playfield.lean ====
section
/-! DEFINITION. The playfield's colour lookup (spec/41_playfield.md). -/

namespace Sys2Proof.Machine

/-- `PFbit(j)` for `0 ≤ j ≤ 19` (R142). -/
def pfBit (pf : Playfield) (j : Nat) : Bool :=
  if j < 4 then pf.reg0.getLsbD (4 + j)
  else if j < 12 then pf.reg1.getLsbD (11 - j)
  else pf.reg2.getLsbD (j - 12)

/-- The dot index of a position: the second half repeats the first, mirrored where reflected (R141). -/
def pfDot (reflected : Bool) (pos : Nat) : Nat :=
  let j := pos / 4
  if 20 ≤ j then
    let h := j - 20
    if reflected then 19 - h else h
  else j

/-- The colour of a lit dot; the half test uses the position itself (R141, R143). -/
def pfLitColor (pf : Playfield) : Byte :=
  if pf.scoreMode then
    if pf.posCnt < Config.lineWidth / 2 then pf.scoreColorLeft else pf.scoreColorRight
  else pf.color

/-- `getColor` of the Playfield (R141). -/
def playfieldColor (pf : Playfield) : Option Byte :=
  if pfBit pf (pfDot pf.reflected pf.posCnt) then some (pfLitColor pf) else none

end Sys2Proof.Machine
end

