-- ==== Sys2Proof/Machine/Ops.lean ====
section
/-! DEFINITION. The shared operations over the block and its wires: the object records by name, the tick, the read
primitive, the outputs, and the arrival of an event. There is no exception to take and none to return from
(spec/60_exceptions.md R280, R285, R286). -/

namespace Sys2Proof.Machine

/-! ## The object records by name -/

def Chip.obj (c : Chip) : ObjId → GraphicsObject
  | .P0 => c.p0
  | .P1 => c.p1
  | .M0 => c.m0
  | .M1 => c.m1
  | .BL => c.bl
  | .PF => c.pf.toGraphicsObject

/-- Apply an operation to one object record. -/
def Chip.modObj (f : GraphicsObject → GraphicsObject) (c : Chip) : ObjId → Chip
  | .P0 => { c with p0 := f c.p0 }
  | .P1 => { c with p1 := f c.p1 }
  | .M0 => { c with m0 := f c.m0 }
  | .M1 => { c with m1 := f c.m1 }
  | .BL => { c with bl := f c.bl }
  | .PF => { c with pf := { c.pf with toGraphicsObject := f c.pf.toGraphicsObject } }

/-- Apply one operation to each of the five movable objects (spec/45_register_writes.md R236, R237). -/
def Chip.modMovables (f : GraphicsObject → GraphicsObject) (c : Chip) : Chip :=
  { c with p0 := f c.p0, p1 := f c.p1, m0 := f c.m0, m1 := f c.m1, bl := f c.bl }

/-! ## The tick (spec/40_graphics_object.md R113) -/

/-- `getColor`, selected by the variant tag and by nothing else (spec/10_state.md R20). Only the Playfield's lookup
reads `pf`, for the fields that record has beside the shared ones. -/
def colorLookup (pf : Playfield) (o : GraphicsObject) : Option Byte :=
  match o.variant with
  | .player => o.playerColor
  | .missile => o.missileBallColor
  | .ball => o.missileBallColor
  | .playfield => playfieldColor { pf with toGraphicsObject := o }

/-- The delay latch's countdown and its copy at zero. -/
def GraphicsObject.latchStep (o : GraphicsObject) : GraphicsObject :=
  if o.delayCnt = 0 then o
  else if o.delayCnt - 1 = 0 then { o with delayCnt := 0, delayedGraphics := o.graphics }
  else { o with delayCnt := o.delayCnt - 1 }

/-- The reload at a decoder match, also in the middle of a span. -/
def GraphicsObject.reloadStep (o : GraphicsObject) : GraphicsObject :=
  if o.posCnt ∈ o.decoders then { o with widthCnt := o.width } else o

/-- The countdown of the span and the advance of the position. -/
def GraphicsObject.advanceStep (o : GraphicsObject) : GraphicsObject :=
  { o with
    widthCnt := if 0 < o.widthCnt then o.widthCnt - 1 else o.widthCnt
    posCnt := (o.posCnt + 1) % Config.lineWidth }

/-- `tick(obj)`: the colour looked up between the reload and the countdown, and the new record (R113). -/
def tick (pf : Playfield) (o : GraphicsObject) : Option Byte × GraphicsObject :=
  let o' := o.latchStep.reloadStep
  (if 0 < o'.widthCnt then colorLookup pf o' else none, o'.advanceStep)

/-- The colours the six ticks of this colour clock return. -/
def Chip.colors (c : Chip) : Colors where
  p0 := (tick c.pf c.p0).1
  p1 := (tick c.pf c.p1).1
  m0 := (tick c.pf c.m0).1
  m1 := (tick c.pf c.m1).1
  bl := (tick c.pf c.bl).1
  pf := (tick c.pf c.pf.toGraphicsObject).1

/-- The six records after their ticks; the ticks touch disjoint records (spec/42_scan_timing.md R155). -/
def Chip.ticked (c : Chip) : Chip :=
  { c with
    p0 := (tick c.pf c.p0).2
    p1 := (tick c.pf c.p1).2
    m0 := (tick c.pf c.m0).2
    m1 := (tick c.pf c.m1).2
    bl := (tick c.pf c.bl).2
    pf := { c.pf with toGraphicsObject := (tick c.pf c.pf.toGraphicsObject).2 } }

/-! ## The wires -/

/-- Replace the block's state, whose wires stay as they are. -/
def State.updChip (f : Chip → Chip) (s : State) : State := { s with chip := f s.chip }

/-- `emit E`: append to the output stream (spec/00_scope.md section 5). -/
def State.emit (e : Output) (s : State) : State := { s with outputs := e :: s.outputs }

/-- Return a byte from an R event. -/
def State.returnByte (b : Byte) (s : State) : State := { s with reads := b :: s.reads }

/-- `reset(obj, cyc)` on one movable object, with the sampled `cpu_cycles` (spec/45_register_writes.md section 6). -/
def State.positionReset (o : ObjId) (s : State) : State :=
  s.updChip fun c => c.modObj (GraphicsObject.resetPos c.horCnt s.cpuCycles) o

/-- A register read: one byte goes out and nothing else happens (spec/20_memory.md R73, R76). -/
def State.readRegister (addr : Byte) (s : State) : State := s.returnByte (s.chip.cx.regRead addr)

/-! ## The arrival of an event -/

/-- The next event arrives: it leaves the queue, and `cpu_cycles` is sampled (log entries 1 and 3). -/
def State.arrive (e : BusEvent) (rest : List BusEvent) (s : State) : State :=
  { s with inputs := rest, cpuCycles := e.cyc }

/-- The word waiting at the head of the queue, and the state in which its event is applied. -/
def State.fetch (s : State) : Option (EventWord × State) :=
  match s.inputs with
  | [] => none
  | e :: rest => some (e.word, s.arrive e rest)

end Sys2Proof.Machine
end

