-- ==== Sys2Proof/Machine/Bank.lean ====
section
/-! DEFINITION. The rest of the register bank: the reserved bytes, the three strobes, the unmatched write
(spec/45_register_writes.md sections 10 to 12), every register read (spec/46_register_reads.md), and INIT. -/

namespace Sys2Proof.Machine

/-- RESMP0 (R234): stored, read by nothing. -/
def execResmp0 (val : Byte) (s : State) : Result := .next (s.updChip fun c => { c with resmp0 := val })

/-- RESMP1 (R235): stored, read by nothing. -/
def execResmp1 (val : Byte) (s : State) : Result := .next (s.updChip fun c => { c with resmp1 := val })

/-- HMOVE (R236): the same at every beam position; the playfield is not moved (40 R124). `val` is ignored. -/
def execHmove (_val : Byte) (s : State) : Result := .next (s.updChip (Chip.modMovables GraphicsObject.move))

/-- HMCLR (R237): positions are untouched. `val` is ignored. -/
def execHmclr (_val : Byte) (s : State) : Result :=
  .next (s.updChip (Chip.modMovables (GraphicsObject.setOffset 0x00)))

/-- CXCLR (R238). `val` is ignored. -/
def execCxclr (_val : Byte) (s : State) : Result := .next (s.updChip fun c => { c with cx := Collisions.clear })

/-- WNOP (R240): no state changes, no output, no fault. -/
def execWnop (_addr _val : Byte) (s : State) : Result := .next s

/-! ## Reads -/

/-- CXM0P (R261). -/
def execCxm0p (s : State) : Result := .next (s.readRegister 0x00)

/-- CXM1P (R262). -/
def execCxm1p (s : State) : Result := .next (s.readRegister 0x01)

/-- CXP0FB (R263). -/
def execCxp0fb (s : State) : Result := .next (s.readRegister 0x02)

/-- CXP1FB (R264). -/
def execCxp1fb (s : State) : Result := .next (s.readRegister 0x03)

/-- CXM0FB (R265). -/
def execCxm0fb (s : State) : Result := .next (s.readRegister 0x04)

/-- CXM1FB (R266). -/
def execCxm1fb (s : State) : Result := .next (s.readRegister 0x05)

/-- CXBLPF (R267). -/
def execCxblpf (s : State) : Result := .next (s.readRegister 0x06)

/-- CXPPMM (R268). -/
def execCxppmm (s : State) : Result := .next (s.readRegister 0x07)

/-- RZERO (R269): 0x00, whatever the unmatched address. -/
def execRzero (_addr : Byte) (s : State) : Result := .next (s.returnByte 0x00)

/-! ## Initialisation -/

/-- INIT (70 R300, 10 R50 to R56): the block's state from any state; it emits nothing and the wires stay as they are
(log entry 7). -/
def execInit (s : State) : Result := .next (s.updChip fun _ => Chip.init)

end Sys2Proof.Machine
end

