-- ==== Sys2Proof/Machine/Objects.lean ====
section
/-! DEFINITION. The register writes of the movable objects: sizes, colours, reflection, position resets, graphics and
enables, motion registers, delayed-graphics enables (spec/45_register_writes.md sections 2 to 4 and 6 to 9). -/

namespace Sys2Proof.Machine

/-! ## Number/size: 0x04, 0x05 (R204, R205) -/

/-- One count/size register: the missile takes the decoder set and its own width, the player the set and the table's
width. That the player takes the set too is the spec's DESIGN CHOICE (92 D6; log entry 12). -/
def Chip.configureSize (missile player : ObjId) (val : Byte) (c : Chip) : Chip :=
  let row := nusizTable (nusizCode val)
  (c.modObj (fun o => (o.setDecoders row.1).setWidth (spanWidth val)) missile).modObj
    (fun o => (o.setDecoders row.1).setWidth row.2) player

/-- NUSIZ0 (R204). -/
def execNusiz0 (val : Byte) (s : State) : Result := .next (s.updChip (Chip.configureSize .M0 .P0 val))

/-- NUSIZ1 (R205). -/
def execNusiz1 (val : Byte) (s : State) : Result := .next (s.updChip (Chip.configureSize .M1 .P1 val))

/-! ## Colours: 0x06 to 0x09 (R206 to R209; which object and half a player's colour reaches, log entry 14) -/

/-- `setColor` on one object record. -/
def Chip.colorObj (b : Byte) (o : ObjId) (c : Chip) : Chip := c.modObj (GraphicsObject.setColor b) o

/-- COLUP0 (R206). -/
def execColup0 (val : Byte) (s : State) : Result :=
  .next <| s.updChip fun c =>
    let c := (c.colorObj val .P0).colorObj val .M0
    { c with pf := { c.pf with scoreColorLeft := val } }

/-- COLUP1 (R207). -/
def execColup1 (val : Byte) (s : State) : Result :=
  .next <| s.updChip fun c =>
    let c := (c.colorObj val .P1).colorObj val .M1
    { c with pf := { c.pf with scoreColorRight := val } }

/-- COLUPF (R208). -/
def execColupf (val : Byte) (s : State) : Result :=
  .next (s.updChip fun c => (c.colorObj val .PF).colorObj val .BL)

/-- COLUBK (R209). -/
def execColubk (val : Byte) (s : State) : Result :=
  .next (s.updChip fun c => { c with backgroundColor := val })

/-! ## Player reflection: 0x0b, 0x0c (R211, R212) -/

/-- REFP0 (R211). -/
def execRefp0 (val : Byte) (s : State) : Result :=
  .next (s.updChip fun c => c.modObj (GraphicsObject.setReflected (reflectBit val)) .P0)

/-- REFP1 (R212). -/
def execRefp1 (val : Byte) (s : State) : Result :=
  .next (s.updChip fun c => c.modObj (GraphicsObject.setReflected (reflectBit val)) .P1)

/-! ## Position resets: 0x10 to 0x14 (R216 to R220); `val` is ignored (spec/30_encoding.md R98) -/

/-- RESP0 (R216). -/
def execResp0 (_val : Byte) (s : State) : Result := .next (s.positionReset .P0)

/-- RESP1 (R217). -/
def execResp1 (_val : Byte) (s : State) : Result := .next (s.positionReset .P1)

/-- RESM0 (R218). -/
def execResm0 (_val : Byte) (s : State) : Result := .next (s.positionReset .M0)

/-- RESM1 (R219). -/
def execResm1 (_val : Byte) (s : State) : Result := .next (s.positionReset .M1)

/-- RESBL (R220). -/
def execResbl (_val : Byte) (s : State) : Result := .next (s.positionReset .BL)

/-! ## Graphics and enables: 0x1b to 0x1f (R221 to R225) -/

/-- GRP0 (R221). -/
def execGrp0 (val : Byte) (s : State) : Result :=
  .next (s.updChip fun c => c.modObj (GraphicsObject.setGraphics val) .P0)

/-- GRP1 (R222). -/
def execGrp1 (val : Byte) (s : State) : Result :=
  .next (s.updChip fun c => c.modObj (GraphicsObject.setGraphics val) .P1)

/-- ENAM0 (R223). -/
def execEnam0 (val : Byte) (s : State) : Result :=
  .next (s.updChip fun c => c.modObj (GraphicsObject.setEnabled (enableBit val)) .M0)

/-- ENAM1 (R224). -/
def execEnam1 (val : Byte) (s : State) : Result :=
  .next (s.updChip fun c => c.modObj (GraphicsObject.setEnabled (enableBit val)) .M1)

/-- ENABL (R225). -/
def execEnabl (val : Byte) (s : State) : Result :=
  .next (s.updChip fun c => c.modObj (GraphicsObject.setEnabled (enableBit val)) .BL)

/-! ## Motion registers: 0x20 to 0x24 (R226 to R230); writing one moves nothing -/

/-- HMP0 (R226). -/
def execHmp0 (val : Byte) (s : State) : Result :=
  .next (s.updChip fun c => c.modObj (GraphicsObject.setOffset val) .P0)

/-- HMP1 (R227). -/
def execHmp1 (val : Byte) (s : State) : Result :=
  .next (s.updChip fun c => c.modObj (GraphicsObject.setOffset val) .P1)

/-- HMM0 (R228). -/
def execHmm0 (val : Byte) (s : State) : Result :=
  .next (s.updChip fun c => c.modObj (GraphicsObject.setOffset val) .M0)

/-- HMM1 (R229). -/
def execHmm1 (val : Byte) (s : State) : Result :=
  .next (s.updChip fun c => c.modObj (GraphicsObject.setOffset val) .M1)

/-- HMBL (R230). -/
def execHmbl (val : Byte) (s : State) : Result :=
  .next (s.updChip fun c => c.modObj (GraphicsObject.setOffset val) .BL)

/-! ## Delayed-graphics enables: 0x25 to 0x27 (R231 to R233) -/

/-- VDELP0 (R231). -/
def execVdelp0 (val : Byte) (s : State) : Result :=
  .next (s.updChip fun c => c.modObj (GraphicsObject.setDelayed (delayBit val)) .P0)

/-- VDELP1 (R232). -/
def execVdelp1 (val : Byte) (s : State) : Result :=
  .next (s.updChip fun c => c.modObj (GraphicsObject.setDelayed (delayBit val)) .P1)

/-- VDELBL (R233). -/
def execVdelbl (val : Byte) (s : State) : Result :=
  .next (s.updChip fun c => c.modObj (GraphicsObject.setDelayed (delayBit val)) .BL)

end Sys2Proof.Machine
end

