-- ==== Sys2Proof/Machine/PlayfieldWrites.lean ====
section
/-! DEFINITION. The playfield's register writes: control and the three patterns (spec/45_register_writes.md sections
4 and 5). -/

namespace Sys2Proof.Machine

/-- CTRLPF (R210): the playfield's three mode bits and the ball's width; `PF.width` stays 160. -/
def execCtrlpf (val : Byte) (s : State) : Result :=
  .next <| s.updChip fun c =>
    let c := c.modObj (GraphicsObject.setReflected (ctrlReflect val)) .PF
    let c := { c with pf := { c.pf with scoreMode := ctrlScore val, priority := ctrlPriority val } }
    c.modObj (GraphicsObject.setWidth (spanWidth val)) .BL

/-- PF0 (R213): all 8 bits are stored. -/
def execPf0 (val : Byte) (s : State) : Result :=
  .next (s.updChip fun c => { c with pf := { c.pf with reg0 := val } })

/-- PF1 (R214). -/
def execPf1 (val : Byte) (s : State) : Result :=
  .next (s.updChip fun c => { c with pf := { c.pf with reg1 := val } })

/-- PF2 (R215). -/
def execPf2 (val : Byte) (s : State) : Result :=
  .next (s.updChip fun c => { c with pf := { c.pf with reg2 := val } })

end Sys2Proof.Machine
end

