-- ==== Sys2Proof/Machine/Timing.lean ====
section
/-! DEFINITION. The scan timing controller: CLK, and the writes VSYNC, WSYNC, RSYNC (spec/42_scan_timing.md). -/

namespace Sys2Proof.Machine

/-- `ArmResume()` (R152). -/
def Chip.armResume (c : Chip) : Chip := if c.halt then { c with wsyncNextLine := true } else c

/-- `Advance()` (R151): the intermediate value 228 is never stored. -/
def Chip.advance (c : Chip) : Chip :=
  if c.horCnt + 1 = Config.lineTotal then
    Chip.armResume { c with horCnt := 0, verCnt := c.verCnt + 1 }
  else { c with horCnt := c.horCnt + 1 }

/-- Whether the resume strobe fires, on the advanced counter (R153). -/
def Chip.resumes (c : Chip) : Bool := c.horCnt == Config.wsyncResumeHpos && c.wsyncNextLine

/-- `ResumeStrobe()` (R153). -/
def State.resumeStrobe (s : State) : State :=
  if s.chip.resumes then
    (s.updChip fun c => { c with wsyncNextLine := false, halt := false }).emit .resume
  else s

/-- `ForwardPixel(out)` (R156): only on armed frames and past the vertical blank; the gate by `frame_armed` and the
two coordinates are the spec's (log entries 17 and 20). -/
def State.forwardPixel (out : Byte) (s : State) : State :=
  if s.chip.frameArmed ∧ Config.vblankLines ≤ s.chip.verCnt then
    s.emit (.pixel (s.chip.horCnt - Config.lineStart) (s.chip.verCnt - Config.vblankLines) out)
  else s

/-- The block after the ticks and the collision update of one visible colour clock (R155). -/
def Chip.rasterized (c : Chip) : Chip := { c.ticked with cx := c.cx.update c.colors }

/-- The composed colour of one visible colour clock (R155). -/
def Chip.pixelColor (c : Chip) : Byte := composite c.colors c.pf.priority c.backgroundColor

/-- `Video()` (R155). -/
def State.video (s : State) : State := (s.updChip Chip.rasterized).forwardPixel s.chip.pixelColor

/-- One colour clock: advance, resume test, and the video work where the NEW `hor_cnt` is visible (R150, R154;
the order is the spec's, log entry 9). -/
def State.colorClock (s : State) : State :=
  let s := (s.updChip Chip.advance).resumeStrobe
  if Config.lineStart ≤ s.chip.horCnt then s.video else s

/-- CLK (R150). -/
def execClk (s : State) : Result := .next s.colorClock

/-- The frame boundary of an accepted rising edge (R160): the very first one only arms drawing. -/
def State.frameBoundary (s : State) : State :=
  let t := s.updChip fun c => { c with vsyncing := true, verCnt := 0, frameArmed := true }
  if s.chip.frameArmed then t.emit .framePresent else t

/-- VSYNC (R160): edge-detected by the block's own `vsyncing`. -/
def execVsync (val : Byte) (s : State) : Result :=
  .next <|
    if syncLevel val then if s.chip.vsyncing then s else s.frameBoundary
    else s.updChip fun c => { c with vsyncing := false }

/-- WSYNC (R162): sets the level only; the flag is armed at the next wrap. `val` is ignored. -/
def execWsync (_val : Byte) (s : State) : Result := .next (s.updChip fun c => { c with halt := true })

/-- RSYNC (R163): no wrap, no arming, no object change (log entry 23). `val` is ignored. -/
def execRsync (_val : Byte) (s : State) : Result := .next (s.updChip fun c => { c with horCnt := 0 })

end Sys2Proof.Machine
end

