-- ==== Sys2Proof/Machine/Dispatch.lean ====
section
/-! DEFINITION. The dispatch of an event to its meaning, one arm per constructor
(spec/45_register_writes.md R200, spec/30_encoding.md R95). -/

namespace Sys2Proof.Machine

def exec (i : Instr) (s : State) : Host.Outcome State Fault Refusal :=
  match i with
  | .vsync val => Sys2Proof.Machine.execVsync val s
  | .wsync val => Sys2Proof.Machine.execWsync val s
  | .rsync val => Sys2Proof.Machine.execRsync val s
  | .nusiz0 val => Sys2Proof.Machine.execNusiz0 val s
  | .nusiz1 val => Sys2Proof.Machine.execNusiz1 val s
  | .colup0 val => Sys2Proof.Machine.execColup0 val s
  | .colup1 val => Sys2Proof.Machine.execColup1 val s
  | .colupf val => Sys2Proof.Machine.execColupf val s
  | .colubk val => Sys2Proof.Machine.execColubk val s
  | .ctrlpf val => Sys2Proof.Machine.execCtrlpf val s
  | .refp0 val => Sys2Proof.Machine.execRefp0 val s
  | .refp1 val => Sys2Proof.Machine.execRefp1 val s
  | .pf0 val => Sys2Proof.Machine.execPf0 val s
  | .pf1 val => Sys2Proof.Machine.execPf1 val s
  | .pf2 val => Sys2Proof.Machine.execPf2 val s
  | .resp0 val => Sys2Proof.Machine.execResp0 val s
  | .resp1 val => Sys2Proof.Machine.execResp1 val s
  | .resm0 val => Sys2Proof.Machine.execResm0 val s
  | .resm1 val => Sys2Proof.Machine.execResm1 val s
  | .resbl val => Sys2Proof.Machine.execResbl val s
  | .grp0 val => Sys2Proof.Machine.execGrp0 val s
  | .grp1 val => Sys2Proof.Machine.execGrp1 val s
  | .enam0 val => Sys2Proof.Machine.execEnam0 val s
  | .enam1 val => Sys2Proof.Machine.execEnam1 val s
  | .enabl val => Sys2Proof.Machine.execEnabl val s
  | .hmp0 val => Sys2Proof.Machine.execHmp0 val s
  | .hmp1 val => Sys2Proof.Machine.execHmp1 val s
  | .hmm0 val => Sys2Proof.Machine.execHmm0 val s
  | .hmm1 val => Sys2Proof.Machine.execHmm1 val s
  | .hmbl val => Sys2Proof.Machine.execHmbl val s
  | .vdelp0 val => Sys2Proof.Machine.execVdelp0 val s
  | .vdelp1 val => Sys2Proof.Machine.execVdelp1 val s
  | .vdelbl val => Sys2Proof.Machine.execVdelbl val s
  | .resmp0 val => Sys2Proof.Machine.execResmp0 val s
  | .resmp1 val => Sys2Proof.Machine.execResmp1 val s
  | .hmove val => Sys2Proof.Machine.execHmove val s
  | .hmclr val => Sys2Proof.Machine.execHmclr val s
  | .cxclr val => Sys2Proof.Machine.execCxclr val s
  | .wnop addr val => Sys2Proof.Machine.execWnop addr val s
  | .cxm0p => Sys2Proof.Machine.execCxm0p s
  | .cxm1p => Sys2Proof.Machine.execCxm1p s
  | .cxp0fb => Sys2Proof.Machine.execCxp0fb s
  | .cxp1fb => Sys2Proof.Machine.execCxp1fb s
  | .cxm0fb => Sys2Proof.Machine.execCxm0fb s
  | .cxm1fb => Sys2Proof.Machine.execCxm1fb s
  | .cxblpf => Sys2Proof.Machine.execCxblpf s
  | .cxppmm => Sys2Proof.Machine.execCxppmm s
  | .rzero addr => Sys2Proof.Machine.execRzero addr s
  | .clk => Sys2Proof.Machine.execClk s
  | .init => Sys2Proof.Machine.execInit s

end Sys2Proof.Machine
end

