-- ==== Sys2Proof/Machine/Step.lean ====
section
/-! DEFINITION. One step: the next event of the one total order is applied (spec/20_memory.md R77, R83). -/

namespace Sys2Proof.Machine

/-- One step. Without an event nothing changes (spec/00_scope.md R6; log entry 2); a word of `kind = 11` is refused
(spec/30_encoding.md R100). -/
def step (s : State) : Host.Outcome State Fault Refusal :=
  match s.fetch with
  | none => .next s
  | some (w, s') =>
    match decode w with
    | .ok i => exec i s'
    | .error .invalidKind => .refused (.invalidEventWord w)

/-- `s` with the event whose bits are `w` as the next one to arrive; `cpu_cycles` stays what it is. -/
def State.withFetchWord (s : State) (nbits w : Nat) : State :=
  { s with inputs := { word := BitVec.ofNat 19 (w % 2 ^ nbits), cyc := s.cpuCycles } :: s.inputs }

end Sys2Proof.Machine
end

