-- ==== Sys2Proof/Safety.lean ====
section
/-! DEFINITION. The terms claims use: the invariants of the block (spec/10_state.md R43 and the ranges of section 1),
runs of several events (spec/70_reset_and_hazards.md R331), and the host's premises, each by name (70 R332). -/

namespace Sys2Proof.Machine

/-! ## Invariants -/

/-- The six documented decoder sets (spec/10_state.md R21). -/
def legalDecoderSets : List (List Nat) := [[0], [0, 16], [0, 32], [0, 16, 32], [0, 64], [0, 32, 64]]

/-- R43 (a), (b), (c), (f) for one record. -/
abbrev GraphicsObject.InRange (o : GraphicsObject) : Prop :=
  o.posCnt < Config.lineWidth ∧ o.widthCnt ≤ o.width ∧ o.decoders ∈ legalDecoderSets ∧ o.delayCnt ≤ delayLen

/-- R43 (a), (b), (c), (e), (f). -/
abbrev Chip.InRange (c : Chip) : Prop :=
  c.p0.InRange ∧ c.p1.InRange ∧ c.m0.InRange ∧ c.m1.InRange ∧ c.bl.InRange ∧ c.pf.InRange ∧
    c.horCnt < Config.lineTotal

/-- The variant tags never change (R20). -/
abbrev Chip.Tagged (c : Chip) : Prop :=
  c.p0.variant = .player ∧ c.p1.variant = .player ∧ c.m0.variant = .missile ∧ c.m1.variant = .missile ∧
    c.bl.variant = .ball ∧ c.pf.variant = .playfield

/-- The legal widths (R22), and the decoder set of the ball and the playfield (R21). -/
abbrev Chip.LegalSizes (c : Chip) : Prop :=
  c.p0.width ∈ [8, 16, 32] ∧ c.p1.width ∈ [8, 16, 32] ∧
    c.m0.width ∈ [1, 2, 4, 8] ∧ c.m1.width ∈ [1, 2, 4, 8] ∧ c.bl.width ∈ [1, 2, 4, 8] ∧
    c.pf.width = Config.lineWidth ∧ c.bl.decoders = [0] ∧ c.pf.decoders = [0]

/-- An enable byte is all-ones or all-zeros (R25). -/
abbrev GraphicsObject.EnableBytes (o : GraphicsObject) : Prop :=
  (o.graphics = 0x00 ∨ o.graphics = 0xFF) ∧ (o.delayedGraphics = 0x00 ∨ o.delayedGraphics = 0xFF)

/-- The enable bytes of missiles and ball, and the missiles' delay bit, which stays 0 (R25). -/
abbrev Chip.LegalEnables (c : Chip) : Prop :=
  c.m0.EnableBytes ∧ c.m1.EnableBytes ∧ c.bl.EnableBytes ∧ c.m0.delayed = false ∧ c.m1.delayed = false

/-- What every event keeps (R43 but for (d), which is about two states; R20 to R25). -/
abbrev Chip.Inv (c : Chip) : Prop := c.InRange ∧ c.Tagged ∧ c.LegalSizes ∧ c.LegalEnables

/-! ## Runs -/

/-- Several events applied one after another (spec/20_memory.md R83). -/
def execAll : List Instr → State → Result
  | [], s => .next s
  | i :: is, s =>
    match exec i s with
    | .next t => execAll is t
    | .fault r => .fault r
    | .refused r => .refused r

/-- `n` consecutive CLK events. -/
def clocks (n : Nat) (s : State) : Result := execAll (List.replicate n .clk) s

/-- A run: a finite sequence of events from the initial state (70 R301, R331). -/
def runTrace (evs : List BusEvent) : Result :=
  Host.Core.run Sys2Proof.core evs.length { State.reset with inputs := evs }

/-- The output events in the order they were emitted (70 R331). -/
def State.outputStream (s : State) : List Output := s.outputs.reverse

/-- The bytes returned by R events in the order they were returned (70 R331). -/
def State.readStream (s : State) : List Byte := s.reads.reverse

/-! ## Views of the block -/

/-- Whether an output event is a pixel. -/
def Output.isPixel : Output → Bool
  | .pixel _ _ _ => true
  | .framePresent => false
  | .resume => false

/-- The record without its colour and its motion register. -/
def GraphicsObject.colorless (o : GraphicsObject) : GraphicsObject := { o with color := 0x00, offset := 0x00 }

/-- The block without its colours, its priority and score flags, its motion registers, its line number, its sync and
halt flags and its reserved bytes: all that a collision must not depend on (spec/43_collision.md R181, R183;
spec/41_playfield.md R143). What is left decides which objects emit, and in which colour clock. -/
def Chip.colorless (c : Chip) : Chip :=
  { c with
    p0 := c.p0.colorless
    p1 := c.p1.colorless
    m0 := c.m0.colorless
    m1 := c.m1.colorless
    bl := c.bl.colorless
    pf :=
      { c.pf with
        toGraphicsObject := c.pf.toGraphicsObject.colorless
        scoreMode := false
        scoreColorLeft := 0x00
        scoreColorRight := 0x00
        priority := false }
    backgroundColor := 0x00
    verCnt := 0
    vsyncing := false
    frameArmed := false
    wsyncNextLine := false
    halt := false
    resmp0 := 0x00
    resmp1 := 0x00 }

/-- The ticks a line has had when the beam stands at `hor_cnt = h` (spec/42_scan_timing.md R154). -/
def ticksOfLine (h : Nat) : Nat := if h < Config.lineStart then 0 else h + 1 - Config.lineStart

/-- `n` ticks of one record, with nothing in between. -/
def GraphicsObject.ticked (pf : Playfield) (n : Nat) (o : GraphicsObject) : GraphicsObject :=
  (fun o => (tick pf o).2)^[n] o

/-! ## Premises about the host (70 R332); none is checked by the block -/

/-- The kind of an event: 0 bus access, 1 CLK, 2 INIT (spec/30_encoding.md R90). -/
def BusEvent.kind (e : BusEvent) : Nat := (kindField e.word).toNat

/-- A write to one of the five position-reset addresses. -/
def BusEvent.isPositionReset (e : BusEvent) : Bool :=
  e.kind == 0 && rwField e.word && [0x10, 0x11, 0x12, 0x13, 0x14].contains (addrField e.word)

/-- `InitFirst`: the trace starts with INIT (70 R301). -/
def InitFirst (evs : List BusEvent) : Bool := evs.head?.any fun e => e.kind == 2

/-- `Ratio3`, counted from `k` colour clocks after a CPU-cycle boundary: a bus access falls only on a boundary, and
boundaries are three colour clocks apart (spec/20_memory.md R78). DESIGN CHOICE (log entry 30), where the spec is silent
or says that the source is: one boundary may carry any number of accesses, and groups of three clocks may pass with none
(91 N19); INIT, which is no CLK, keeps the count; and the count runs on through a WSYNC halt and past its Resume. -/
def ratio3From (k : Nat) : List BusEvent → Bool
  | [] => true
  | e :: es =>
    match e.kind with
    | 0 => k % Config.clockRatio == 0 && ratio3From k es
    | 1 => ratio3From (k + 1) es
    | _ => ratio3From k es

/-- `Ratio3` (70 R332). DESIGN CHOICE (log entry 30): the spec names no first boundary (70 R316: the residue class depends
on the history of the program), so a trace may start at any of the three phases. -/
def Ratio3 (evs : List BusEvent) : Bool := (List.range Config.clockRatio).any fun k => ratio3From k evs

/-- `HaltObeyed` from a state: no W and no R event while `halt = 1` (20 R79). -/
def haltObeyedFrom (s : State) : List BusEvent → Bool
  | [] => true
  | e :: es =>
    !(e.kind == 0 && s.chip.halt) &&
      match step { s with inputs := [e] } with
      | .next t => haltObeyedFrom t es
      | .fault _ => true
      | .refused _ => true

/-- `HaltObeyed` (70 R332). -/
def HaltObeyed (evs : List BusEvent) : Bool := haltObeyedFrom State.reset evs

/-- `CycInput`: `held` is what the CPU core's counter held at each event, it never decreases (20 R80), and each
position reset carries it (70 R332). -/
def CycInput (held : List Nat) (evs : List BusEvent) : Prop :=
  held.Pairwise (· ≤ ·) ∧ List.Forall₂ (fun h e => e.isPositionReset → e.cyc = h) held evs

end Sys2Proof.Machine
end

