-- ==== Sys2Proof/Certificates/Slice0/Obligations.lean ====
section
/-! DEFINITION. The statements for the provers, each from the rules of spec/. Where a clause rests on a decision the
spec marks as its own (92) or takes from general knowledge (93), the docstring says so and names the log entry. -/

open Sys2Proof Sys2Proof.Machine

/-! ## Events, words and steps -/

/-- The next event of the queue is decoded, and `step` is the decoded event's meaning in the state in which the event
has left the queue and `cpu_cycles` is sampled. The queue is the model's (log entries 1 and 3). -/
def Obligations.StepAppliesTheDecodedEvent : Prop :=
  ∀ (s : State) (e : BusEvent) (rest : List BusEvent) (i : Instr),
    s.inputs = e :: rest → decode e.word = .ok i →
      i.wellFormed = true ∧ step s = exec i { s with inputs := rest, cpuCycles := e.cyc }

/-- Without an event nothing changes (the model's reading of R6, log entry 2); a word of kind 11 is refused, whatever
its other bits (the word's packing is the spec's, 92 D19; log entries 5 and 6). -/
def Obligations.NoEventIdlesAndInvalidKindIsRefused : Prop :=
  (∀ s : State, s.inputs = [] → step s = .next s) ∧
    ∀ (s : State) (e : BusEvent) (rest : List BusEvent), s.inputs = e :: rest → e.word.toNat / 2 ^ 17 = 3 →
      step s = .refused (.invalidEventWord e.word)

/-- Decoding the canonical word of any well-formed event gives the event back, with every operand (30 R90 to R95; the
packing is the spec's, 92 D19; log entry 5). -/
def Obligations.DecodeOfEncodeIsTheEvent : Prop :=
  ∀ i : Instr, i.wellFormed = true → decode (encode i) = .ok i

/-- The other direction: a word that decodes is, but for the bits R90 calls ignored, the canonical word of the event
it decodes to, and that event is well-formed (log entry 5). -/
def Obligations.EncodeOfDecodeIsTheCanonicalWord : Prop :=
  ∀ (w : EventWord) (i : Instr), decode w = .ok i →
    i.wellFormed = true ∧
      encode i =
        if w.toNat / 2 ^ 17 = 0 then if w.toNat / 2 ^ 16 % 2 = 1 then w else BitVec.ofNat 19 (w.toNat / 256 * 256)
        else if w.toNat / 2 ^ 17 = 1 then 0x20000 else 0x40000

/-- A word decodes into the row of the opcode table whose match it has under the row's mask, and into WNOP or RZERO
only where no longer row matches (30 R91 to R95; log entry 5). -/
def Obligations.DecodedWordMatchesItsTableRow : Prop :=
  ∀ (w : EventWord) (i : Instr), decode w = .ok i →
    w &&& i.tableRow.2 = i.tableRow.1 ∧
      ∀ j : Instr, j.tableRow.2 = 0x7FF00 → w &&& 0x7FF00 = j.tableRow.1 → i.tableRow = j.tableRow

/-- Words written out from the encodings of 30 R90 to R94, in the numbers of 95 Programs 1 to 4. -/
def Obligations.WordsOfTheSpecDecode : Prop :=
  decode 0x10902 = .ok (.colubk 0x02) ∧ decode 0x1061E = .ok (.colup0 0x1E) ∧ decode 0x11B81 = .ok (.grp0 0x81) ∧
    decode 0x10433 = .ok (.nusiz0 0x33) ∧ decode 0x10200 = .ok (.wsync 0x00) ∧ decode 0x12A00 = .ok (.hmove 0x00) ∧
    decode 0x115FF = .ok (.wnop 0x15 0xFF) ∧ decode 0x00600 = .ok .cxblpf ∧ decode 0x03C00 = .ok (.rzero 0x3C) ∧
    decode 0x20000 = .ok .clk ∧ decode 0x40000 = .ok .init ∧ decode 0x60000 = .error .invalidKind

/-! ## Whole-machine rules -/

/-- Every event is total (60 R281): it has a successor state from EVERY state, in the ranges of R43 (a), (b), (c), (e),
(f) where the state before it is; and the one thing a step refuses is a word that spells no event. The clamp behind (b)
and the bound of (f) are the spec's decisions (92 D4, D17; log entries 11, 18). -/
def Obligations.EveryEventHasASuccessorThatKeepsRanges : Prop :=
  (∀ (i : Instr) (s : State), ∃ t, exec i s = .next t ∧ (s.chip.InRange → t.chip.InRange)) ∧
    ∀ s : State, (∃ t, step s = .next t) ∨
      ∃ e rest, s.inputs = e :: rest ∧ e.word.toNat / 2 ^ 17 = 3 ∧ step s = .refused (.invalidEventWord e.word)

/-- The invariants of R43 (but (d), which is `LatchesAreClearedOnlyInBulk`) and the ranges and fixed fields of R20 to R25
are kept by every step, from every state that has them. Some of them rest on decisions of the spec (92 D15, D17; log
entries 8, 11, 18). -/
def Obligations.StepKeepsTheInvariants : Prop :=
  ∀ s t : State, s.chip.Inv → step s = .next t → t.chip.Inv

/-- The state after reset has them. -/
def Obligations.ResetStateHasTheInvariants : Prop := State.reset.chip.Inv

/-- R182: `clear()` sets all fifteen latches false, CXCLR and INIT invoke it, and no other event clears a latch. -/
def Obligations.LatchesAreClearedOnlyInBulk : Prop :=
  ∀ (i : Instr) (s t : State), exec i s = .next t →
    (((∃ v, i = .cxclr v) ∨ i = .init) → ∀ l : Latch, t.chip.cx.get l = false) ∧
      (¬ ((∃ v, i = .cxclr v) ∨ i = .init) → ∀ l : Latch, s.chip.cx.get l = true → t.chip.cx.get l = true)

/-- Each output event comes from its one source, and an event emits at most one: a colour clock that releases the CPU
draws nothing (60 R282, R284; 42 R161). That a CLK acts at the NEW counter and the coordinates are the spec's decisions
(92 D1, D20; log entries 9, 20). -/
def Obligations.EachOutputHasItsOneSource : Prop :=
  ∀ (i : Instr) (s t : State), exec i s = .next t →
    t.outputs = s.outputs ∨
      ∃ o, t.outputs = o :: s.outputs ∧
        match o with
        | .resume => i = .clk ∧ t.chip.horCnt = 6 ∧ t.chip.halt = false
        | .pixel x y _ => i = .clk ∧ t.chip.horCnt = 68 + x ∧ t.chip.verCnt = 40 + y
        | .framePresent => ∃ v, i = .vsync v ∧ t.chip.verCnt = 0

/-- Who writes the timing controller's fields (10 R30 to R36): the beam position, the flags, the background. -/
def Obligations.TimingFieldsHaveTheirWriters : Prop :=
  ∀ (i : Instr) (s t : State), exec i s = .next t → i ≠ .init →
    (i ≠ .clk → (∀ v, i ≠ .rsync v) → t.chip.horCnt = s.chip.horCnt) ∧
      (i ≠ .clk → (∀ v, i ≠ .vsync v) → t.chip.verCnt = s.chip.verCnt) ∧
      ((∀ v, i ≠ .vsync v) → t.chip.vsyncing = s.chip.vsyncing ∧ t.chip.frameArmed = s.chip.frameArmed) ∧
      (i ≠ .clk → t.chip.wsyncNextLine = s.chip.wsyncNextLine) ∧
      (i ≠ .clk → (∀ v, i ≠ .wsync v) → t.chip.halt = s.chip.halt) ∧
      ((∀ v, i ≠ .colubk v) → t.chip.backgroundColor = s.chip.backgroundColor) ∧
      (s.chip.frameArmed = true → t.chip.frameArmed = true)

/-- Before the first vertical sync no pixel is forwarded, on any line (70 R302; the gate is the spec's decision
92 D16, log entry 17): over no sequence of events without a VSYNC write does the stream of pixels of an unarmed state
change. -/
def Obligations.NoPixelBeforeTheFirstVerticalSync : Prop :=
  ∀ (is : List Instr) (s t : State), s.chip.frameArmed = false → (∀ v, Instr.vsync v ∉ is) →
    execAll is s = .next t → t.outputs.filter Output.isPixel = s.outputs.filter Output.isPixel

/-! ## The colour clock -/

/-- The beam, the arming of the resume flag and the resume strobe (42 R151, R152, R153). -/
def Obligations.ClkAdvancesTheBeamAndReleasesTheCpu : Prop :=
  ∀ s : State, ∃ t, exec .clk s = .next t ∧
    t.chip.horCnt = (if s.chip.horCnt + 1 = 228 then 0 else s.chip.horCnt + 1) ∧
    t.chip.verCnt = (if s.chip.horCnt + 1 = 228 then s.chip.verCnt + 1 else s.chip.verCnt) ∧
    (if t.chip.horCnt = 6 ∧ s.chip.wsyncNextLine = true then
      t.chip.wsyncNextLine = false ∧ t.chip.halt = false ∧
        t.outputs.count .resume = s.outputs.count .resume + 1
    else
      t.chip.wsyncNextLine = (s.chip.wsyncNextLine || (decide (s.chip.horCnt + 1 = 228) && s.chip.halt)) ∧
        t.chip.halt = s.chip.halt ∧ t.outputs.count .resume = s.outputs.count .resume)

/-- The tick (40 R113), once for each of the six objects in a colour clock of the visible window and never in the
blank, with the order of its steps seen in the colour it returns. That the window is tested on the NEW `hor_cnt` is the
spec's decision (92 D1; log entry 9), and so is that no other event but INIT writes a delayed byte (92 D32; log
entry 28). -/
def Obligations.VisibleClkTicksEachObjectOnce : Prop :=
  (∀ s : State, ∃ t, exec .clk s = .next t ∧ ∀ o : ObjId,
    let a := s.chip.obj o
    t.chip.obj o =
      if 68 ≤ t.chip.horCnt then
        { a with
          delayCnt := a.delayCnt - 1
          delayedGraphics := if a.delayCnt = 1 then a.graphics else a.delayedGraphics
          widthCnt := (if a.posCnt ∈ a.decoders then a.width else a.widthCnt) - 1
          posCnt := (a.posCnt + 1) % 160 }
      else a) ∧
  (∀ (pf : Playfield) (a : GraphicsObject),
    let n := if a.posCnt ∈ a.decoders then a.width else a.widthCnt
    (tick pf a).1 =
      if n = 0 then none
      else colorLookup pf
        { a with
          delayCnt := a.delayCnt - 1
          delayedGraphics := if a.delayCnt = 1 then a.graphics else a.delayedGraphics
          widthCnt := n }) ∧
  ∀ (i : Instr) (s t : State) (o : ObjId), exec i s = .next t → i ≠ .clk → i ≠ .init →
    (t.chip.obj o).delayedGraphics = (s.chip.obj o).delayedGraphics

/-- One update of the collision matrix in every visible colour clock: a latch is set where both members of its pair
emitted, and none is cleared (43 R181); in the blank the matrix stays as it is. That this happens on every line, and at
the NEW `hor_cnt`, are the spec's decisions (92 D31, D1; log entries 24, 9). -/
def Obligations.VisibleClkLatchesOverlaps : Prop :=
  ∀ s : State, ∃ t, exec .clk s = .next t ∧
    let e := fun o : ObjId => (tick s.chip.pf (s.chip.obj o)).1.isSome
    t.chip.cx =
      if 68 ≤ t.chip.horCnt then
        { m0p1 := s.chip.cx.m0p1 || (e .M0 && e .P1), m0p0 := s.chip.cx.m0p0 || (e .M0 && e .P0),
          m1p0 := s.chip.cx.m1p0 || (e .M1 && e .P0), m1p1 := s.chip.cx.m1p1 || (e .M1 && e .P1),
          p0pf := s.chip.cx.p0pf || (e .P0 && e .PF), p0bl := s.chip.cx.p0bl || (e .P0 && e .BL),
          p1pf := s.chip.cx.p1pf || (e .P1 && e .PF), p1bl := s.chip.cx.p1bl || (e .P1 && e .BL),
          m0pf := s.chip.cx.m0pf || (e .M0 && e .PF), m0bl := s.chip.cx.m0bl || (e .M0 && e .BL),
          m1pf := s.chip.cx.m1pf || (e .M1 && e .PF), m1bl := s.chip.cx.m1bl || (e .M1 && e .BL),
          blpf := s.chip.cx.blpf || (e .BL && e .PF), p0p1 := s.chip.cx.p0p1 || (e .P0 && e .P1),
          m0m1 := s.chip.cx.m0m1 || (e .M0 && e .M1) }
      else s.chip.cx

/-- The pixel of a visible colour clock (42 R155, R156): the composition of the six returned colours, forwarded from
line 40 on of an armed frame. The window test on the NEW `hor_cnt`, with it the pixel's `x`, the gate by `frame_armed`
and the coordinates are the spec's decisions (92 D1, D16, D20; log entries 9, 17, 20). -/
def Obligations.VisibleClkForwardsTheComposedPixel : Prop :=
  ∀ s : State, ∃ t, exec .clk s = .next t ∧
    let c : Colors :=
      { p0 := (tick s.chip.pf s.chip.p0).1, p1 := (tick s.chip.pf s.chip.p1).1, m0 := (tick s.chip.pf s.chip.m0).1,
        m1 := (tick s.chip.pf s.chip.m1).1, bl := (tick s.chip.pf s.chip.bl).1,
        pf := (tick s.chip.pf s.chip.pf.toGraphicsObject).1 }
    t.outputs =
      if 68 ≤ t.chip.horCnt then
        if s.chip.frameArmed = true ∧ 40 ≤ t.chip.verCnt then
          .pixel (t.chip.horCnt - 68) (t.chip.verCnt - 40) (composite c s.chip.pf.priority s.chip.backgroundColor) ::
            s.outputs
        else s.outputs
      else if t.chip.horCnt = 6 ∧ s.chip.wsyncNextLine = true then .resume :: s.outputs
      else s.outputs

/-- What a colour clock leaves unchanged: the rest of the block and of the wires (42 R150, "State written"). -/
def Obligations.ClkFrame : Prop :=
  ∀ s : State, ∃ t, exec .clk s = .next t ∧
    t.chip.pf = { s.chip.pf with toGraphicsObject := t.chip.pf.toGraphicsObject } ∧
    t.chip.vsyncing = s.chip.vsyncing ∧ t.chip.frameArmed = s.chip.frameArmed ∧
    t.chip.backgroundColor = s.chip.backgroundColor ∧ t.chip.resmp0 = s.chip.resmp0 ∧
    t.chip.resmp1 = s.chip.resmp1 ∧ t.cpuCycles = s.cpuCycles ∧ t.inputs = s.inputs ∧ t.reads = s.reads

/-- A tick leaves `pos_cnt` in 0 .. 159 from every state, 160 ticks bring it back, and so a line of 228 colour clocks
leaves every undisturbed object where it was, one line further down (40 R118; 42 R151, R158). That a line's ticks are
those of the NEW counters 68 .. 227 is the spec's decision (92 D1; log entry 9). -/
def Obligations.LineOfTicksRestoresPositions : Prop :=
  (∀ (pf : Playfield) (o : GraphicsObject), (tick pf o).2.posCnt < 160) ∧
    (∀ (pf : Playfield) (o : GraphicsObject), o.posCnt < 160 → (o.ticked pf 160).posCnt = o.posCnt) ∧
    ∀ s : State, s.chip.horCnt < 228 → ∃ t, clocks 228 s = .next t ∧
      t.chip.horCnt = s.chip.horCnt ∧ t.chip.verCnt = s.chip.verCnt + 1 ∧
      ∀ o : ObjId, (s.chip.obj o).posCnt < 160 → (t.chip.obj o).posCnt = (s.chip.obj o).posCnt

/-- Collisions do not depend on any colour, the score mode, the priority, the motion registers, the line, the sync and
halt flags or the reserved bytes (43 R181 and R183, the latter the spec's decision 92 D31; 41 R143; log entry 24); that
they are the pairs that emitted is `VisibleClkLatchesOverlaps`. -/
def Obligations.CollisionsIgnoreColoursAndLines : Prop :=
  ∀ s t u v : State, s.chip.colorless = u.chip.colorless → exec .clk s = .next t → exec .clk u = .next v →
    t.chip.cx = v.chip.cx

/-- The halt is the CPU's, not the block's: a colour clock does the same video work whatever `halt` and the pending flag
are; only they and the Resume event differ (60 R290). -/
def Obligations.HaltDoesNotStopTheBlock : Prop :=
  ∀ (s t u : State) (h w : Bool), exec .clk s = .next t →
    exec .clk { s with chip := { s.chip with halt := h, wsyncNextLine := w } } = .next u →
      u.chip = { t.chip with halt := u.chip.halt, wsyncNextLine := u.chip.wsyncNextLine } ∧
        u.outputs.filter (· ≠ .resume) = t.outputs.filter (· ≠ .resume)

/-! ## Colour lookups and composition -/

/-- The Player's lookup (40 R114), inside a span. -/
def Obligations.PlayerLookupFollowsTheCountdown : Prop :=
  ∀ (pf : Playfield) (o : GraphicsObject), o.variant = .player → 1 ≤ o.widthCnt → o.widthCnt ≤ o.width →
    let idx := 8 * (o.widthCnt - 1) / o.width
    idx ≤ 7 ∧
      colorLookup pf o =
        if (if o.delayed then o.delayedGraphics else o.graphics).getLsbD (if o.reflected then 7 - idx else idx) then
          some o.color
        else none

/-- The picture of one copy (40 R113, R114, R116; source scenario T6): a player of width 8, 16 or 32 that meets a
decoder shows its bitmap, bit 7 first, each bit 1, 2 or 4 ticks long, mirrored where reflected. A delayed player shows
the latched byte, and the new one from the tick on in which the countdown reaches 0. -/
def Obligations.PlayerSpanShowsItsBitmap : Prop :=
  ∀ (pf : Playfield) (o : GraphicsObject) (m k : Nat), o.variant = .player → (m = 1 ∨ m = 2 ∨ m = 4) →
    o.width = 8 * m → o.posCnt ∈ o.decoders →
    (∀ j, 0 < j → j < o.width → (o.posCnt + j) % 160 ∉ o.decoders) → k < o.width →
      let shown := if o.delayed ∧ ¬ (1 ≤ o.delayCnt ∧ o.delayCnt ≤ k + 1) then o.delayedGraphics else o.graphics
      (tick pf (o.ticked pf k)).1 =
        if shown.getLsbD (if o.reflected then k / m else 7 - k / m) then some o.color else none

/-- The Missile's and the Ball's lookup (40 R115): the selected byte decides, and no bit of it is indexed; so an
enable write shows the span and a disable write hides it. The spec's resolution of 90 C1 (92 D13; log entry 16). -/
def Obligations.MissileAndBallShowWhereEnabled : Prop :=
  ∀ (pf : Playfield) (o : GraphicsObject), (o.variant = .missile ∨ o.variant = .ball) →
    colorLookup pf o =
        (if (if o.delayed then o.delayedGraphics else o.graphics) = 0x00 then none else some o.color) ∧
      ∀ e : Bool, o.delayed = false → (colorLookup pf (o.setEnabled e)).isSome = e

/-- The playfield's lookup (41 R141, R142) through the twenty dots in their order on the screen. -/
def Obligations.PlayfieldLookupReadsTheDots : Prop :=
  ∀ pf : Playfield, pf.variant = .playfield → pf.posCnt < 160 →
    let dots : List Bool :=
      ([4, 5, 6, 7].map fun b => pf.reg0.getLsbD b) ++ ([7, 6, 5, 4, 3, 2, 1, 0].map fun b => pf.reg1.getLsbD b) ++
        ([0, 1, 2, 3, 4, 5, 6, 7].map fun b => pf.reg2.getLsbD b)
    let j := pf.posCnt / 4
    let dot := if j < 20 then j else if pf.reflected then 19 - (j - 20) else j - 20
    colorLookup pf pf.toGraphicsObject =
      if dots.getD dot false then
        if pf.scoreMode then if pf.posCnt < 80 then some pf.scoreColorLeft else some pf.scoreColorRight
        else some pf.color
      else none

/-- The right half of a line repeats the left one, or mirrors it where reflected (41 R145). -/
def Obligations.PlayfieldRightHalfRepeatsOrMirrors : Prop :=
  ∀ (pf : Playfield) (x : Nat), x < 80 →
    (playfieldColor { pf with posCnt := if pf.reflected then 159 - x else x + 80 }).isSome =
      (playfieldColor { pf with posCnt := x }).isSome

/-- A playfield whose twenty pattern bits are 0 emits nothing at any position, in score mode too (95 T9, 41 R141). -/
def Obligations.BlankPlayfieldEmitsNothing : Prop :=
  ∀ pf : Playfield, pf.variant = .playfield → pf.reg0.toNat < 16 → pf.reg1 = 0x00 → pf.reg2 = 0x00 →
    pf.posCnt < 160 → colorLookup pf pf.toGraphicsObject = none

/-- The compositor (44 R190 to R192): the winner is the last emitting object of the order the flag selects, the
background where none emits. -/
def Obligations.CompositorPicksTheLastOfItsOrder : Prop :=
  ∀ (c : Colors) (bg : Byte),
    composite c true bg = (c.bl <|> c.pf <|> c.m0 <|> c.p0 <|> c.m1 <|> c.p1).getD bg ∧
      composite c false bg = (c.m0 <|> c.p0 <|> c.m1 <|> c.p1 <|> c.bl <|> c.pf).getD bg

/-! ## The timing controller's writes -/

/-- VSYNC (42 R160), whole: the rising edge, the repeated level, the falling edge, and everything left alone. That the
first edge arms `frame_armed`, that a repeated level does nothing and that the other bits are ignored are the spec's
decisions (92 D16, D30, D24; log entries 17, 23, 22). -/
def Obligations.VsyncIsEdgeDetected : Prop :=
  ∀ (v : Byte) (s : State),
    exec (.vsync v) s = .next
      (if v.toNat / 2 % 2 = 1 then
        if s.chip.vsyncing then s
        else
          { s with
            chip := { s.chip with vsyncing := true, verCnt := 0, frameArmed := true }
            outputs := if s.chip.frameArmed then .framePresent :: s.outputs else s.outputs }
      else { s with chip := { s.chip with vsyncing := false } })

/-- WSYNC (42 R162): the level and nothing else, whatever the byte. That the level is the block's and that the byte is
ignored are the spec's decisions (92 D21, D24; log entries 21, 22). -/
def Obligations.WsyncSetsTheHaltLevelOnly : Prop :=
  ∀ (v : Byte) (s : State), exec (.wsync v) s = .next { s with chip := { s.chip with halt := true } }

/-- RSYNC (42 R163): the counter and nothing else. That it is no wrap is the spec's decision (92 D27; log entry 23). -/
def Obligations.RsyncResetsTheCounterOnly : Prop :=
  ∀ (v : Byte) (s : State), exec (.rsync v) s = .next { s with chip := { s.chip with horCnt := 0 } }

/-- The latency of a halt (42 R157): a WSYNC at `hor_cnt = h` releases the CPU in the (234 - h)-th colour clock after
it, at `hor_cnt = 6` of the following line, with one Resume, and not before. Where a resume is already pending as the
write comes and `h < 6`, it fires at `hor_cnt = 6` of this line (R153). That the test is on the NEW counter is the
spec's decision (92 D1; log entry 9). -/
def Obligations.WsyncReleasesOnTheFollowingLine : Prop :=
  ∀ (v : Byte) (s : State), s.chip.horCnt < 228 →
    let pending := s.chip.wsyncNextLine = true ∧ s.chip.horCnt < 6
    let n := if pending then 6 - s.chip.horCnt else 234 - s.chip.horCnt
    (∀ k, k < n → ∃ t, execAll (.wsync v :: List.replicate k .clk) s = .next t ∧
      t.chip.halt = true ∧ t.outputs.count .resume = s.outputs.count .resume) ∧
    ∃ t, execAll (.wsync v :: List.replicate n .clk) s = .next t ∧
      t.chip.horCnt = 6 ∧ t.chip.verCnt = (if pending then s.chip.verCnt else s.chip.verCnt + 1) ∧
      t.chip.halt = false ∧ t.chip.wsyncNextLine = false ∧
      t.outputs.count .resume = s.outputs.count .resume + 1

/-! ## The register writes: the new state, which is the frame too -/

/-- NUSIZ0 and NUSIZ1 (45 R204, R205), with the eight rows of R203 written out. Rows 3 and 6 are the source's; the
other rows, the places of the fields, that the player takes the decoder set, and the clamp of a span in progress are
the spec's (92 D5, D6, D17; log entries 12, 13, 18). -/
def Obligations.SizeWritesConfigureMissileAndPlayer : Prop :=
  ∀ (v : Byte) (s : State),
    let rows : List (List Nat × Nat) :=
      [([0], 8), ([0, 16], 8), ([0, 32], 8), ([0, 16, 32], 8), ([0, 64], 8), ([0], 16), ([0, 32, 64], 32), ([0], 32)]
    let row := rows.getD (v.toNat % 8) ([], 0)
    let mw := 2 ^ (v.toNat / 16 % 4)
    let size := fun (w : Nat) (o : GraphicsObject) =>
      { o with decoders := row.1, width := w, widthCnt := if o.widthCnt ≤ w then o.widthCnt else w }
    exec (.nusiz0 v) s = .next { s with chip := { s.chip with m0 := size mw s.chip.m0, p0 := size row.2 s.chip.p0 } } ∧
      exec (.nusiz1 v) s = .next { s with chip := { s.chip with m1 := size mw s.chip.m1, p1 := size row.2 s.chip.p1 } }

/-- COLUP0 and COLUP1 (45 R206, R207). That the missile and a score half take the player's colour is the spec's
(92 D11; log entry 14). -/
def Obligations.PlayerColourWritesReachMissileAndScoreHalf : Prop :=
  ∀ (v : Byte) (s : State),
    exec (.colup0 v) s = .next
      { s with
        chip :=
          { s.chip with
            p0 := { s.chip.p0 with color := v }
            m0 := { s.chip.m0 with color := v }
            pf := { s.chip.pf with scoreColorLeft := v } } } ∧
      exec (.colup1 v) s = .next
        { s with
          chip :=
            { s.chip with
              p1 := { s.chip.p1 with color := v }
              m1 := { s.chip.m1 with color := v }
              pf := { s.chip.pf with scoreColorRight := v } } }

/-- COLUPF and COLUBK (45 R208, R209). -/
def Obligations.PlayfieldAndBackgroundColourWrites : Prop :=
  ∀ (v : Byte) (s : State),
    exec (.colupf v) s = .next
      { s with
        chip := { s.chip with pf := { s.chip.pf with color := v }, bl := { s.chip.bl with color := v } } } ∧
      exec (.colubk v) s = .next { s with chip := { s.chip with backgroundColor := v } }

/-- CTRLPF (45 R210). The places of the fields and the clamp are the spec's (92 D7, D17; log entries 13, 18). -/
def Obligations.PlayfieldControlWrite : Prop :=
  ∀ (v : Byte) (s : State),
    let w := 2 ^ (v.toNat / 16 % 4)
    exec (.ctrlpf v) s = .next
      { s with
        chip :=
          { s.chip with
            pf :=
              { s.chip.pf with
                reflected := decide (v.toNat % 2 = 1)
                scoreMode := decide (v.toNat / 2 % 2 = 1)
                priority := decide (v.toNat / 4 % 2 = 1) }
            bl :=
              { s.chip.bl with
                width := w
                widthCnt := if s.chip.bl.widthCnt ≤ w then s.chip.bl.widthCnt else w } } }

/-- REFP0 and REFP1 (45 R211, R212). The place of the bit is the spec's (92 D8; log entry 13). -/
def Obligations.PlayerReflectionWrites : Prop :=
  ∀ (v : Byte) (s : State),
    let r := decide (v.toNat / 8 % 2 = 1)
    exec (.refp0 v) s = .next { s with chip := { s.chip with p0 := { s.chip.p0 with reflected := r } } } ∧
      exec (.refp1 v) s = .next { s with chip := { s.chip with p1 := { s.chip.p1 with reflected := r } } }

/-- PF0, PF1, PF2 (45 R213 to R215): all 8 bits are stored, and of register 0 only bits 7..4 are ever read. -/
def Obligations.PatternWritesStoreWholeBytes : Prop :=
  (∀ (v : Byte) (s : State),
    exec (.pf0 v) s = .next { s with chip := { s.chip with pf := { s.chip.pf with reg0 := v } } } ∧
      exec (.pf1 v) s = .next { s with chip := { s.chip with pf := { s.chip.pf with reg1 := v } } } ∧
      exec (.pf2 v) s = .next { s with chip := { s.chip with pf := { s.chip.pf with reg2 := v } } }) ∧
    ∀ (pf : Playfield) (o : GraphicsObject) (a b : Byte), a.toNat / 16 = b.toNat / 16 →
      colorLookup { pf with reg0 := a } o = colorLookup { pf with reg0 := b } o

/-- RESP0, RESP1, RESM0, RESM1, RESBL (45 R216 to R220) in the closed form of 70 R311, for every `cyc` and every byte:
`pos_cnt` of the one object and nothing else. The condition of the correction and the reduction mod 160 are the
spec's (92 D2, D3; log entry 10); `cyc` is a free input (log entry 3). -/
def Obligations.PositionResetPlacesTheObjectFromCyc : Prop :=
  ∀ (v : Byte) (s : State),
    let pos := (((if s.chip.horCnt = 67 then 162 else 161) - 3 * (s.cpuCycles : Int)) % 160).toNat
    exec (.resp0 v) s = .next { s with chip := { s.chip with p0 := { s.chip.p0 with posCnt := pos } } } ∧
      exec (.resp1 v) s = .next { s with chip := { s.chip with p1 := { s.chip.p1 with posCnt := pos } } } ∧
      exec (.resm0 v) s = .next { s with chip := { s.chip with m0 := { s.chip.m0 with posCnt := pos } } } ∧
      exec (.resm1 v) s = .next { s with chip := { s.chip with m1 := { s.chip.m1 with posCnt := pos } } } ∧
      exec (.resbl v) s = .next { s with chip := { s.chip with bl := { s.chip.bl with posCnt := pos } } }

/-- GRP0 and GRP1 (45 R221, R222): the bitmap, and the delay latch armed with DELAY_LEN. That the latched byte and the
other player are not touched is the spec's decision (92 D32; log entry 28). -/
def Obligations.GraphicsWritesArmTheDelayLatch : Prop :=
  ∀ (v : Byte) (s : State),
    exec (.grp0 v) s = .next
      { s with chip := { s.chip with p0 := { s.chip.p0 with graphics := v, delayCnt := delayLen } } } ∧
      exec (.grp1 v) s = .next
        { s with chip := { s.chip with p1 := { s.chip.p1 with graphics := v, delayCnt := delayLen } } }

/-- ENAM0, ENAM1, ENABL (45 R223 to R225). The place of the bit, and that an enable arms the delay latch, with 160, are
the spec's (92 D4, D9; log entries 11, 13). -/
def Obligations.EnableWritesFillTheByteAndArmTheLatch : Prop :=
  ∀ (v : Byte) (s : State),
    let g : Byte := if v.toNat / 2 % 2 = 1 then 0xFF else 0x00
    exec (.enam0 v) s = .next { s with chip := { s.chip with m0 := { s.chip.m0 with graphics := g, delayCnt := 160 } } } ∧
      exec (.enam1 v) s = .next
        { s with chip := { s.chip with m1 := { s.chip.m1 with graphics := g, delayCnt := 160 } } } ∧
      exec (.enabl v) s = .next
        { s with chip := { s.chip with bl := { s.chip.bl with graphics := g, delayCnt := 160 } } }

/-- HMP0, HMP1, HMM0, HMM1, HMBL (45 R226 to R230): all 8 bits are stored and nothing moves. -/
def Obligations.MotionRegisterWritesStoreTheByte : Prop :=
  ∀ (v : Byte) (s : State),
    exec (.hmp0 v) s = .next { s with chip := { s.chip with p0 := { s.chip.p0 with offset := v } } } ∧
      exec (.hmp1 v) s = .next { s with chip := { s.chip with p1 := { s.chip.p1 with offset := v } } } ∧
      exec (.hmm0 v) s = .next { s with chip := { s.chip with m0 := { s.chip.m0 with offset := v } } } ∧
      exec (.hmm1 v) s = .next { s with chip := { s.chip with m1 := { s.chip.m1 with offset := v } } } ∧
      exec (.hmbl v) s = .next { s with chip := { s.chip with bl := { s.chip.bl with offset := v } } }

/-- VDELP0, VDELP1, VDELBL (45 R231 to R233): the bit alone; nothing is armed, cleared or copied. The place of the bit
is the spec's (92 D10; log entry 13). -/
def Obligations.DelayEnableWritesSwitchTheByteOnly : Prop :=
  ∀ (v : Byte) (s : State),
    let d := decide (v.toNat % 2 = 1)
    exec (.vdelp0 v) s = .next { s with chip := { s.chip with p0 := { s.chip.p0 with delayed := d } } } ∧
      exec (.vdelp1 v) s = .next { s with chip := { s.chip with p1 := { s.chip.p1 with delayed := d } } } ∧
      exec (.vdelbl v) s = .next { s with chip := { s.chip with bl := { s.chip.bl with delayed := d } } }

/-- RESMP0 and RESMP1 (45 R234, R235): stored whole, and read by nothing: every other event but INIT does the same, to
the rest of the state and to the outputs, whatever the two bytes are. -/
def Obligations.ReservedBytesAreStoreOnly : Prop :=
  (∀ (v : Byte) (s : State),
    exec (.resmp0 v) s = .next { s with chip := { s.chip with resmp0 := v } } ∧
      exec (.resmp1 v) s = .next { s with chip := { s.chip with resmp1 := v } }) ∧
    ∀ (i : Instr) (s t : State) (a b : Byte), i ≠ .init → (∀ v, i ≠ .resmp0 v) → (∀ v, i ≠ .resmp1 v) →
      exec i s = .next t →
        exec i { s with chip := { s.chip with resmp0 := a, resmp1 := b } } =
          .next { t with chip := { t.chip with resmp0 := a, resmp1 := b } }

/-- HMOVE (45 R236, 40 R123): each of the five movable objects moves by its signed motion nibble, mod 160; the motion
registers, the playfield and all else stay. -/
def Obligations.MotionApplyMovesBySignedNibbles : Prop :=
  ∀ (v : Byte) (s : State),
    let moved := fun o : GraphicsObject =>
      { o with posCnt := (((o.posCnt : Int) + (o.offset.extractLsb' 4 4).toInt) % 160).toNat }
    exec (.hmove v) s = .next
      { s with
        chip :=
          { s.chip with
            p0 := moved s.chip.p0
            p1 := moved s.chip.p1
            m0 := moved s.chip.m0
            m1 := moved s.chip.m1
            bl := moved s.chip.bl } }

/-- HMCLR (45 R237): the five offsets, positions untouched; an HMOVE after it moves nothing. -/
def Obligations.MotionClearStopsMotion : Prop :=
  (∀ (v : Byte) (s : State),
    let still := fun o : GraphicsObject => { o with offset := 0x00 }
    exec (.hmclr v) s = .next
      { s with
        chip :=
          { s.chip with
            p0 := still s.chip.p0
            p1 := still s.chip.p1
            m0 := still s.chip.m0
            m1 := still s.chip.m1
            bl := still s.chip.bl } }) ∧
    ∀ (v w : Byte) (s : State), (∀ o : ObjId, (s.chip.obj o).posCnt < 160) →
      execAll [.hmclr v, .hmove w] s = exec (.hmclr v) s

/-- CXCLR (45 R238): the fifteen latches and nothing else. -/
def Obligations.CollisionClearWrite : Prop :=
  ∀ (v : Byte) (s : State), ∃ t, exec (.cxclr v) s = .next t ∧ (∀ l : Latch, t.chip.cx.get l = false) ∧
    t = { s with chip := { s.chip with cx := t.chip.cx } }

/-- A write to an address that is not among the 38 (45 R240): the event is consumed and no state changes. The form of
the word is the spec's decision (92 D19; log entry 5); that the event leaves the queue and brings its `cyc` is the
model's choice (log entries 1, 3). -/
def Obligations.UnmatchedWriteChangesNothing : Prop :=
  (∀ (a v : Byte) (s : State), exec (.wnop a v) s = .next s) ∧
    ∀ (s : State) (e : BusEvent) (rest : List BusEvent) (a v : Byte), s.inputs = e :: rest →
      e.word.toNat = 0x10000 + 256 * a.toNat + v.toNat →
      (a.toNat = 0x01 ∨ (0x15 ≤ a.toNat ∧ a.toNat ≤ 0x1a) ∨ 0x2d ≤ a.toNat) →
        step s = .next { s with inputs := rest, cpuCycles := e.cyc }

/-! ## The register reads -/

/-- The eight matched reads (46 R261 to R268): `128·a + 64·b` goes out and nothing else happens. Which latch is at which
address and bit is the spec's (92 D12; log entry 15). -/
def Obligations.CollisionReadsReturnTwoLatches : Prop :=
  ∀ s : State,
    let r := fun a b : Bool =>
      (Host.Outcome.next { s with reads := BitVec.ofNat 8 (128 * a.toNat + 64 * b.toNat) :: s.reads } : Result)
    let cx := s.chip.cx
    exec .cxm0p s = r cx.m0p1 cx.m0p0 ∧ exec .cxm1p s = r cx.m1p0 cx.m1p1 ∧
      exec .cxp0fb s = r cx.p0pf cx.p0bl ∧ exec .cxp1fb s = r cx.p1pf cx.p1bl ∧
      exec .cxm0fb s = r cx.m0pf cx.m0bl ∧ exec .cxm1fb s = r cx.m1pf cx.m1bl ∧
      exec .cxblpf s = r cx.blpf false ∧ exec .cxppmm s = r cx.p0p1 cx.m0m1

/-- A read of any address outside 0x00 .. 0x07 returns 0x00 and changes nothing (46 R269), whatever the ignored byte of
the word. The form of the word is the spec's decision (92 D19; log entry 5); that the event leaves the queue and brings
its `cyc` is the model's choice (log entries 1, 3). -/
def Obligations.UnmatchedReadReturnsZero : Prop :=
  (∀ (a : Byte) (s : State), exec (.rzero a) s = .next { s with reads := 0x00 :: s.reads }) ∧
    ∀ (s : State) (e : BusEvent) (rest : List BusEvent), s.inputs = e :: rest → 0x00800 ≤ e.word.toNat →
      e.word.toNat < 0x10000 →
        step s = .next { s with inputs := rest, cpuCycles := e.cyc, reads := 0x00 :: s.reads }

/-- No event but the nine reads returns a byte; a read returns one byte, whose bits 5..0 are 0, and has no side effect
on the block (20 R73, R76; 46 R260). -/
def Obligations.OnlyReadsReturnBytesAndChangeNothing : Prop :=
  ∀ (i : Instr) (s t : State), exec i s = .next t →
    let isRead := i ∈ [Instr.cxm0p, .cxm1p, .cxp0fb, .cxp1fb, .cxm0fb, .cxm1fb, .cxblpf, .cxppmm] ∨ ∃ a, i = .rzero a
    (isRead → ∃ b : Byte, b.toNat % 64 = 0 ∧ t = { s with reads := b :: s.reads }) ∧ (¬ isRead → t.reads = s.reads)

/-! ## INIT -/

/-- INIT, the part the source states (10 R50, R54): from any state, the counters, bytes and flags of all six records
are zero, all fifteen latches are 0. -/
def Obligations.InitZeroesObjectsAndLatches : Prop :=
  ∀ s : State, ∃ t, exec .init s = .next t ∧
    (∀ o : ObjId,
      let r := t.chip.obj o
      r.posCnt = 0 ∧ r.widthCnt = 0 ∧ r.graphics = 0x00 ∧ r.delayedGraphics = 0x00 ∧ r.delayed = false ∧
        r.delayCnt = 0 ∧ r.offset = 0x00 ∧ r.color = 0x00 ∧ r.reflected = false) ∧
    ∀ l : Latch, t.chip.cx.get l = false

/-- INIT, the part the spec decided (10 R51 to R53, R55, R56; 92 D14, D15, D34; log entries 7 and 8): widths, decoder
sets, the playfield's and the timing controller's fields, the reserved bytes; no output; and it is the reset state. -/
def Obligations.InitGivesTheDefaultsFromAnyState : Prop :=
  ∀ s : State, ∃ t, exec .init s = .next t ∧ t = { s with chip := State.reset.chip } ∧
    [ObjId.P0, .P1, .M0, .M1, .BL, .PF].map (fun o => ((t.chip.obj o).width, (t.chip.obj o).decoders)) =
      [(8, [0]), (8, [0]), (1, [0]), (1, [0]), (1, [0]), (160, [0])] ∧
    t.chip.pf.reg0 = 0x00 ∧ t.chip.pf.reg1 = 0x00 ∧ t.chip.pf.reg2 = 0x00 ∧ t.chip.pf.scoreMode = false ∧
    t.chip.pf.priority = false ∧ t.chip.pf.scoreColorLeft = 0x00 ∧ t.chip.pf.scoreColorRight = 0x00 ∧
    t.chip.horCnt = 0 ∧ t.chip.verCnt = 0 ∧ t.chip.vsyncing = false ∧ t.chip.wsyncNextLine = false ∧
    t.chip.backgroundColor = 0x00 ∧ t.chip.halt = false ∧ t.chip.frameArmed = false ∧ t.chip.resmp0 = 0x00 ∧
    t.chip.resmp1 = 0x00

/-! ## Runs of several events -/

/-- The playfield is aligned with the beam (41 R140): `PF.pos_cnt` is the ticks the line has had, up to an offset `k`
that every event but RSYNC and INIT keeps, and to which an RSYNC adds the ticks of the line it cuts (70 R314). That a
line has had its ticks up to the NEW counter, and that RSYNC moves no object, are the spec's decisions (92 D1, D27; log
entries 9, 23). -/
def Obligations.PlayfieldStaysAlignedUntilRsync : Prop :=
  ∀ (i : Instr) (s t : State) (k : Nat), s.chip.horCnt < 228 → i ≠ .init → exec i s = .next t →
    s.chip.pf.posCnt = (ticksOfLine s.chip.horCnt + k) % 160 →
      ((∀ v, i ≠ .rsync v) → t.chip.pf.posCnt = (ticksOfLine t.chip.horCnt + k) % 160) ∧
        ((∃ v, i = .rsync v) →
          t.chip.pf.posCnt = (ticksOfLine t.chip.horCnt + (k + ticksOfLine s.chip.horCnt)) % 160)

/-- The delay latch takes one line of visible clocks (70 R312, R327): a graphics or enable write at `hor_cnt = h`
reaches the object's `delayed_graphics` 228 colour clocks later if `h ≥ 68` and `227 - h` if `h ≤ 67`, and not before.
DELAY_LEN = 160, the enable's bit and its arming, and the ticks at the NEW counter are the spec's decisions (92 D4, D9,
D1; log entries 11, 13, 9). -/
def Obligations.DelayLatchCopiesAfterOneLine : Prop :=
  ∀ (v : Byte) (s : State), s.chip.horCnt < 228 →
    let e : Byte := if v.toNat / 2 % 2 = 1 then 0xFF else 0x00
    let n := if 68 ≤ s.chip.horCnt then 228 else 227 - s.chip.horCnt
    ∀ (i : Instr) (o : ObjId) (b : Byte),
      (i, o, b) ∈ [(Instr.grp0 v, ObjId.P0, v), (.grp1 v, .P1, v), (.enam0 v, .M0, e), (.enam1 v, .M1, e),
        (.enabl v, .BL, e)] →
      (∀ k, k < n → ∃ t, execAll (i :: List.replicate k .clk) s = .next t ∧
        (t.chip.obj o).delayedGraphics = (s.chip.obj o).delayedGraphics ∧ 0 < (t.chip.obj o).delayCnt) ∧
      ∃ t, execAll (i :: List.replicate n .clk) s = .next t ∧ (t.chip.obj o).delayedGraphics = b ∧
        (t.chip.obj o).delayCnt = 0
end

