-- ==== Sys2Proof/Laws/Decode.lean ====
section
/-! SUPPORT. The fields of the canonical words, and what the two maps decode an address to. -/

namespace Sys2Proof

theorem writeWord_toNat (a v : Byte) : (writeWord a v).toNat = 0x10000 + 256 * a.toNat + v.toNat := by
  have := a.isLt; have := v.isLt
  simp only [writeWord, BitVec.toNat_ofNat]; omega

theorem readWord_toNat (a : Byte) : (readWord a).toNat = 256 * a.toNat := by
  have := a.isLt
  simp only [readWord, BitVec.toNat_ofNat]; omega

theorem kindField_toNat (w : EventWord) : (kindField w).toNat = w.toNat / 0x20000 := by
  have := w.isLt
  simp only [kindField, BitVec.extractLsb'_toNat, Nat.shiftRight_eq_div_pow]; omega

theorem addrField_toNat (w : EventWord) : (addrField w).toNat = w.toNat / 256 % 256 := by
  simp only [addrField, BitVec.extractLsb'_toNat, Nat.shiftRight_eq_div_pow]

theorem valField_toNat (w : EventWord) : (valField w).toNat = w.toNat % 256 := by
  simp only [valField, BitVec.extractLsb'_toNat, Nat.shiftRight_eq_div_pow]; omega

theorem rwField_eq (w : EventWord) : rwField w = decide (w.toNat / 0x10000 % 2 = 1) := by
  simp only [rwField, BitVec.getLsbD, Nat.testBit_eq_decide_div_mod_eq]

@[simp] theorem kindField_writeWord (a v : Byte) : kindField (writeWord a v) = 0 := by
  have := a.isLt; have := v.isLt
  apply BitVec.eq_of_toNat_eq
  rw [kindField_toNat, writeWord_toNat]; simp; omega

@[simp] theorem rwField_writeWord (a v : Byte) : rwField (writeWord a v) = true := by
  have := a.isLt; have := v.isLt
  rw [rwField_eq, writeWord_toNat]; simp; omega

@[simp] theorem addrField_writeWord (a v : Byte) : addrField (writeWord a v) = a := by
  have := a.isLt; have := v.isLt
  apply BitVec.eq_of_toNat_eq
  rw [addrField_toNat, writeWord_toNat]; omega

@[simp] theorem valField_writeWord (a v : Byte) : valField (writeWord a v) = v := by
  have := a.isLt; have := v.isLt
  apply BitVec.eq_of_toNat_eq
  rw [valField_toNat, writeWord_toNat]; omega

@[simp] theorem kindField_readWord (a : Byte) : kindField (readWord a) = 0 := by
  have := a.isLt
  apply BitVec.eq_of_toNat_eq
  rw [kindField_toNat, readWord_toNat]; simp; omega

@[simp] theorem rwField_readWord (a : Byte) : rwField (readWord a) = false := by
  have := a.isLt
  rw [rwField_eq, readWord_toNat]; simp; omega

@[simp] theorem addrField_readWord (a : Byte) : addrField (readWord a) = a := by
  have := a.isLt
  apply BitVec.eq_of_toNat_eq
  rw [addrField_toNat, readWord_toNat]; omega

/-- The decoder looks a write's address up in the write map (30 R95 (4)). -/
theorem decode_writeWord (a v : Byte) : decode (writeWord a v) = .ok (decodeWrite a v) := by
  simp [decode]

/-- The decoder looks a read's address up in the read map (30 R95 (5)). -/
theorem decode_readWord (a : Byte) : decode (readWord a) = .ok (decodeRead a) := by
  simp [decode]

/-- The high bits of a word, under a mask of whole high fields. -/
theorem and_high (w : EventWord) (n : Nat) (hn : n ≤ 19) :
    w &&& BitVec.ofNat 19 (2 ^ 19 - 2 ^ n) = BitVec.ofNat 19 (w.toNat / 2 ^ n * 2 ^ n) := by
  apply BitVec.eq_of_getLsbD_eq
  intro i hi
  have hp : (2 ^ 19 - 2 ^ n : Nat) = (2 ^ (19 - n) - 1) * 2 ^ n := by
    rw [Nat.sub_mul, ← Nat.pow_add, Nat.sub_add_cancel hn, Nat.one_mul]
  rw [hp, BitVec.getLsbD_and, BitVec.getLsbD_ofNat, BitVec.getLsbD_ofNat, Nat.testBit_mul_two_pow,
    Nat.testBit_mul_two_pow, Nat.testBit_two_pow_sub_one, Nat.testBit_div_two_pow]
  by_cases h : n ≤ i
  · have : i - n < 19 - n := by omega
    have e : i - n + n = i := by omega
    simp [h, this, hi, BitVec.getLsbD, e]
  · simp [h]

theorem writeWord_row (a v : Byte) : writeWord a v &&& 0x7FF00 = BitVec.ofNat 19 (0x10000 + 256 * a.toNat) := by
  have := a.isLt; have := v.isLt
  have h := and_high (writeWord a v) 8 (by decide)
  have e : (writeWord a v).toNat / 2 ^ 8 * 2 ^ 8 = 0x10000 + 256 * a.toNat := by rw [writeWord_toNat]; omega
  rw [e] at h; exact h

theorem writeWord_kind (a v : Byte) : writeWord a v &&& 0x70000 = 0x10000 := by
  have := a.isLt; have := v.isLt
  have h := and_high (writeWord a v) 16 (by decide)
  have e : (writeWord a v).toNat / 2 ^ 16 * 2 ^ 16 = 0x10000 := by rw [writeWord_toNat]; omega
  rw [e] at h; exact h

theorem readWord_row (a : Byte) : readWord a &&& 0x7FF00 = BitVec.ofNat 19 (256 * a.toNat) := by
  have := a.isLt
  have h := and_high (readWord a) 8 (by decide)
  have e : (readWord a).toNat / 2 ^ 8 * 2 ^ 8 = 256 * a.toNat := by rw [readWord_toNat]; omega
  rw [e] at h; exact h

theorem readWord_kind (a : Byte) : readWord a &&& 0x70000 = 0x00000 := by
  have := a.isLt
  have h := and_high (readWord a) 16 (by decide)
  have e : (readWord a).toNat / 2 ^ 16 * 2 ^ 16 = 0 := by rw [readWord_toNat]; omega
  rw [e] at h; exact h

/-- An address no row of the write map has is the unmatched write (30 R95, R99). -/
theorem decodeWrite_unmatched (a v : Byte) (h : writeAddresses.contains a = false) : decodeWrite a v = .wnop a v := by
  have key : ∀ a : Byte, writeAddresses.contains a = false →
      a.toNat = 0x01 ∨ (0x15 ≤ a.toNat ∧ a.toNat ≤ 0x1a) ∨ 0x2d ≤ a.toNat := by decide
  have k := key a h
  unfold decodeWrite
  split <;> first | rfl | omega

/-- An address outside 0x00 .. 0x07 is the unmatched read (30 R95, R99). -/
theorem decodeRead_unmatched (a : Byte) (h : readAddresses.contains a = false) : decodeRead a = .rzero a := by
  have key : ∀ a : Byte, readAddresses.contains a = false → 8 ≤ a.toNat := by decide
  have k := key a h
  unfold decodeRead
  split <;> first | rfl | omega

end Sys2Proof
end

