-- ==== Sys2Proof/Laws/State.lean ====
section
/-! SUPPORT. One lemma per field per update of the state, each true by rfl, so that no proof unfolds a record update. -/

namespace Sys2Proof.Machine

/-! ## The wires -/

@[simp] theorem State.updChip_chip (s : State) (f : Chip → Chip) : (s.updChip f).chip = f s.chip := rfl
@[simp] theorem State.updChip_cpuCycles (s : State) (f : Chip → Chip) : (s.updChip f).cpuCycles = s.cpuCycles := rfl
@[simp] theorem State.updChip_inputs (s : State) (f : Chip → Chip) : (s.updChip f).inputs = s.inputs := rfl
@[simp] theorem State.updChip_outputs (s : State) (f : Chip → Chip) : (s.updChip f).outputs = s.outputs := rfl
@[simp] theorem State.updChip_reads (s : State) (f : Chip → Chip) : (s.updChip f).reads = s.reads := rfl

@[simp] theorem State.emit_chip (s : State) (e : Output) : (s.emit e).chip = s.chip := rfl
@[simp] theorem State.emit_cpuCycles (s : State) (e : Output) : (s.emit e).cpuCycles = s.cpuCycles := rfl
@[simp] theorem State.emit_inputs (s : State) (e : Output) : (s.emit e).inputs = s.inputs := rfl
@[simp] theorem State.emit_outputs (s : State) (e : Output) : (s.emit e).outputs = e :: s.outputs := rfl
@[simp] theorem State.emit_reads (s : State) (e : Output) : (s.emit e).reads = s.reads := rfl

@[simp] theorem State.returnByte_chip (s : State) (b : Byte) : (s.returnByte b).chip = s.chip := rfl
@[simp] theorem State.returnByte_cpuCycles (s : State) (b : Byte) : (s.returnByte b).cpuCycles = s.cpuCycles := rfl
@[simp] theorem State.returnByte_inputs (s : State) (b : Byte) : (s.returnByte b).inputs = s.inputs := rfl
@[simp] theorem State.returnByte_outputs (s : State) (b : Byte) : (s.returnByte b).outputs = s.outputs := rfl
@[simp] theorem State.returnByte_reads (s : State) (b : Byte) : (s.returnByte b).reads = b :: s.reads := rfl

@[simp] theorem State.arrive_chip (s : State) (e : BusEvent) (rest : List BusEvent) : (s.arrive e rest).chip = s.chip := rfl
@[simp] theorem State.arrive_cpuCycles (s : State) (e : BusEvent) (rest : List BusEvent) : (s.arrive e rest).cpuCycles = e.cyc := rfl
@[simp] theorem State.arrive_inputs (s : State) (e : BusEvent) (rest : List BusEvent) : (s.arrive e rest).inputs = rest := rfl
@[simp] theorem State.arrive_outputs (s : State) (e : BusEvent) (rest : List BusEvent) : (s.arrive e rest).outputs = s.outputs := rfl
@[simp] theorem State.arrive_reads (s : State) (e : BusEvent) (rest : List BusEvent) : (s.arrive e rest).reads = s.reads := rfl

@[simp] theorem State.readRegister_chip (s : State) (a : Byte) : (s.readRegister a).chip = s.chip := rfl
@[simp] theorem State.readRegister_cpuCycles (s : State) (a : Byte) : (s.readRegister a).cpuCycles = s.cpuCycles := rfl
@[simp] theorem State.readRegister_inputs (s : State) (a : Byte) : (s.readRegister a).inputs = s.inputs := rfl
@[simp] theorem State.readRegister_outputs (s : State) (a : Byte) : (s.readRegister a).outputs = s.outputs := rfl
@[simp] theorem State.readRegister_reads (s : State) (a : Byte) : (s.readRegister a).reads = s.chip.cx.regRead a :: s.reads := rfl

/-! ## The block: updates of one object record -/

@[simp] theorem Chip.modObj_horCnt (c : Chip) (f : GraphicsObject → GraphicsObject) (i : ObjId) :
    (c.modObj f i).horCnt = c.horCnt := by cases i <;> rfl
@[simp] theorem Chip.modObj_verCnt (c : Chip) (f : GraphicsObject → GraphicsObject) (i : ObjId) :
    (c.modObj f i).verCnt = c.verCnt := by cases i <;> rfl
@[simp] theorem Chip.modObj_vsyncing (c : Chip) (f : GraphicsObject → GraphicsObject) (i : ObjId) :
    (c.modObj f i).vsyncing = c.vsyncing := by cases i <;> rfl
@[simp] theorem Chip.modObj_wsyncNextLine (c : Chip) (f : GraphicsObject → GraphicsObject) (i : ObjId) :
    (c.modObj f i).wsyncNextLine = c.wsyncNextLine := by cases i <;> rfl
@[simp] theorem Chip.modObj_backgroundColor (c : Chip) (f : GraphicsObject → GraphicsObject) (i : ObjId) :
    (c.modObj f i).backgroundColor = c.backgroundColor := by cases i <;> rfl
@[simp] theorem Chip.modObj_halt (c : Chip) (f : GraphicsObject → GraphicsObject) (i : ObjId) :
    (c.modObj f i).halt = c.halt := by cases i <;> rfl
@[simp] theorem Chip.modObj_frameArmed (c : Chip) (f : GraphicsObject → GraphicsObject) (i : ObjId) :
    (c.modObj f i).frameArmed = c.frameArmed := by cases i <;> rfl
@[simp] theorem Chip.modObj_cx (c : Chip) (f : GraphicsObject → GraphicsObject) (i : ObjId) :
    (c.modObj f i).cx = c.cx := by cases i <;> rfl
@[simp] theorem Chip.modObj_resmp0 (c : Chip) (f : GraphicsObject → GraphicsObject) (i : ObjId) :
    (c.modObj f i).resmp0 = c.resmp0 := by cases i <;> rfl
@[simp] theorem Chip.modObj_resmp1 (c : Chip) (f : GraphicsObject → GraphicsObject) (i : ObjId) :
    (c.modObj f i).resmp1 = c.resmp1 := by cases i <;> rfl

/-- An operation on one record reaches that record and no other. -/
theorem Chip.modObj_obj (c : Chip) (f : GraphicsObject → GraphicsObject) (i j : ObjId) :
    (c.modObj f i).obj j = if j = i then f (c.obj j) else c.obj j := by
  cases i <;> cases j <;> rfl

@[simp] theorem Chip.modObj_obj_same (c : Chip) (f : GraphicsObject → GraphicsObject) (i : ObjId) :
    (c.modObj f i).obj i = f (c.obj i) := by simp [Chip.modObj_obj]

theorem Chip.modObj_obj_ne (c : Chip) (f : GraphicsObject → GraphicsObject) {i j : ObjId} (h : j ≠ i) :
    (c.modObj f i).obj j = c.obj j := by simp [Chip.modObj_obj, h]

@[simp] theorem Chip.modObj_pf_reg0 (c : Chip) (f : GraphicsObject → GraphicsObject) (i : ObjId) :
    (c.modObj f i).pf.reg0 = c.pf.reg0 := by cases i <;> rfl
@[simp] theorem Chip.modObj_pf_reg1 (c : Chip) (f : GraphicsObject → GraphicsObject) (i : ObjId) :
    (c.modObj f i).pf.reg1 = c.pf.reg1 := by cases i <;> rfl
@[simp] theorem Chip.modObj_pf_reg2 (c : Chip) (f : GraphicsObject → GraphicsObject) (i : ObjId) :
    (c.modObj f i).pf.reg2 = c.pf.reg2 := by cases i <;> rfl
@[simp] theorem Chip.modObj_pf_scoreMode (c : Chip) (f : GraphicsObject → GraphicsObject) (i : ObjId) :
    (c.modObj f i).pf.scoreMode = c.pf.scoreMode := by cases i <;> rfl
@[simp] theorem Chip.modObj_pf_scoreColorLeft (c : Chip) (f : GraphicsObject → GraphicsObject) (i : ObjId) :
    (c.modObj f i).pf.scoreColorLeft = c.pf.scoreColorLeft := by cases i <;> rfl
@[simp] theorem Chip.modObj_pf_scoreColorRight (c : Chip) (f : GraphicsObject → GraphicsObject) (i : ObjId) :
    (c.modObj f i).pf.scoreColorRight = c.pf.scoreColorRight := by cases i <;> rfl
@[simp] theorem Chip.modObj_pf_priority (c : Chip) (f : GraphicsObject → GraphicsObject) (i : ObjId) :
    (c.modObj f i).pf.priority = c.pf.priority := by cases i <;> rfl

@[simp] theorem Chip.modMovables_p0 (c : Chip) (f : GraphicsObject → GraphicsObject) :
    (c.modMovables f).p0 = f c.p0 := rfl
@[simp] theorem Chip.modMovables_p1 (c : Chip) (f : GraphicsObject → GraphicsObject) :
    (c.modMovables f).p1 = f c.p1 := rfl
@[simp] theorem Chip.modMovables_m0 (c : Chip) (f : GraphicsObject → GraphicsObject) :
    (c.modMovables f).m0 = f c.m0 := rfl
@[simp] theorem Chip.modMovables_m1 (c : Chip) (f : GraphicsObject → GraphicsObject) :
    (c.modMovables f).m1 = f c.m1 := rfl
@[simp] theorem Chip.modMovables_bl (c : Chip) (f : GraphicsObject → GraphicsObject) :
    (c.modMovables f).bl = f c.bl := rfl
@[simp] theorem Chip.modMovables_pf (c : Chip) (f : GraphicsObject → GraphicsObject) :
    (c.modMovables f).pf = c.pf := rfl
@[simp] theorem Chip.modMovables_horCnt (c : Chip) (f : GraphicsObject → GraphicsObject) :
    (c.modMovables f).horCnt = c.horCnt := rfl
@[simp] theorem Chip.modMovables_verCnt (c : Chip) (f : GraphicsObject → GraphicsObject) :
    (c.modMovables f).verCnt = c.verCnt := rfl
@[simp] theorem Chip.modMovables_vsyncing (c : Chip) (f : GraphicsObject → GraphicsObject) :
    (c.modMovables f).vsyncing = c.vsyncing := rfl
@[simp] theorem Chip.modMovables_wsyncNextLine (c : Chip) (f : GraphicsObject → GraphicsObject) :
    (c.modMovables f).wsyncNextLine = c.wsyncNextLine := rfl
@[simp] theorem Chip.modMovables_backgroundColor (c : Chip) (f : GraphicsObject → GraphicsObject) :
    (c.modMovables f).backgroundColor = c.backgroundColor := rfl
@[simp] theorem Chip.modMovables_halt (c : Chip) (f : GraphicsObject → GraphicsObject) :
    (c.modMovables f).halt = c.halt := rfl
@[simp] theorem Chip.modMovables_frameArmed (c : Chip) (f : GraphicsObject → GraphicsObject) :
    (c.modMovables f).frameArmed = c.frameArmed := rfl
@[simp] theorem Chip.modMovables_cx (c : Chip) (f : GraphicsObject → GraphicsObject) :
    (c.modMovables f).cx = c.cx := rfl
@[simp] theorem Chip.modMovables_resmp0 (c : Chip) (f : GraphicsObject → GraphicsObject) :
    (c.modMovables f).resmp0 = c.resmp0 := rfl
@[simp] theorem Chip.modMovables_resmp1 (c : Chip) (f : GraphicsObject → GraphicsObject) :
    (c.modMovables f).resmp1 = c.resmp1 := rfl

/-! ## The block: one colour clock -/

@[simp] theorem Chip.ticked_p0 (c : Chip) : c.ticked.p0 = (tick c.pf c.p0).2 := rfl
@[simp] theorem Chip.ticked_p1 (c : Chip) : c.ticked.p1 = (tick c.pf c.p1).2 := rfl
@[simp] theorem Chip.ticked_m0 (c : Chip) : c.ticked.m0 = (tick c.pf c.m0).2 := rfl
@[simp] theorem Chip.ticked_m1 (c : Chip) : c.ticked.m1 = (tick c.pf c.m1).2 := rfl
@[simp] theorem Chip.ticked_bl (c : Chip) : c.ticked.bl = (tick c.pf c.bl).2 := rfl
@[simp] theorem Chip.ticked_pf_toGraphicsObject (c : Chip) :
    c.ticked.pf.toGraphicsObject = (tick c.pf c.pf.toGraphicsObject).2 := rfl
@[simp] theorem Chip.ticked_pf_reg0 (c : Chip) : c.ticked.pf.reg0 = c.pf.reg0 := rfl
@[simp] theorem Chip.ticked_pf_reg1 (c : Chip) : c.ticked.pf.reg1 = c.pf.reg1 := rfl
@[simp] theorem Chip.ticked_pf_reg2 (c : Chip) : c.ticked.pf.reg2 = c.pf.reg2 := rfl
@[simp] theorem Chip.ticked_pf_scoreMode (c : Chip) : c.ticked.pf.scoreMode = c.pf.scoreMode := rfl
@[simp] theorem Chip.ticked_pf_scoreColorLeft (c : Chip) : c.ticked.pf.scoreColorLeft = c.pf.scoreColorLeft := rfl
@[simp] theorem Chip.ticked_pf_scoreColorRight (c : Chip) : c.ticked.pf.scoreColorRight = c.pf.scoreColorRight := rfl
@[simp] theorem Chip.ticked_pf_priority (c : Chip) : c.ticked.pf.priority = c.pf.priority := rfl
@[simp] theorem Chip.ticked_horCnt (c : Chip) : c.ticked.horCnt = c.horCnt := rfl
@[simp] theorem Chip.ticked_verCnt (c : Chip) : c.ticked.verCnt = c.verCnt := rfl
@[simp] theorem Chip.ticked_vsyncing (c : Chip) : c.ticked.vsyncing = c.vsyncing := rfl
@[simp] theorem Chip.ticked_wsyncNextLine (c : Chip) : c.ticked.wsyncNextLine = c.wsyncNextLine := rfl
@[simp] theorem Chip.ticked_backgroundColor (c : Chip) : c.ticked.backgroundColor = c.backgroundColor := rfl
@[simp] theorem Chip.ticked_halt (c : Chip) : c.ticked.halt = c.halt := rfl
@[simp] theorem Chip.ticked_frameArmed (c : Chip) : c.ticked.frameArmed = c.frameArmed := rfl
@[simp] theorem Chip.ticked_cx (c : Chip) : c.ticked.cx = c.cx := rfl
@[simp] theorem Chip.ticked_resmp0 (c : Chip) : c.ticked.resmp0 = c.resmp0 := rfl
@[simp] theorem Chip.ticked_resmp1 (c : Chip) : c.ticked.resmp1 = c.resmp1 := rfl

/-- Each of the six records is ticked exactly once. -/
theorem Chip.ticked_obj (c : Chip) (i : ObjId) : c.ticked.obj i = (tick c.pf (c.obj i)).2 := by cases i <;> rfl

theorem Chip.colors_get (c : Chip) (i : ObjId) : c.colors.get i = (tick c.pf (c.obj i)).1 := by cases i <;> rfl

@[simp] theorem Chip.rasterized_p0 (c : Chip) : c.rasterized.p0 = c.ticked.p0 := rfl
@[simp] theorem Chip.rasterized_p1 (c : Chip) : c.rasterized.p1 = c.ticked.p1 := rfl
@[simp] theorem Chip.rasterized_m0 (c : Chip) : c.rasterized.m0 = c.ticked.m0 := rfl
@[simp] theorem Chip.rasterized_m1 (c : Chip) : c.rasterized.m1 = c.ticked.m1 := rfl
@[simp] theorem Chip.rasterized_bl (c : Chip) : c.rasterized.bl = c.ticked.bl := rfl
@[simp] theorem Chip.rasterized_pf (c : Chip) : c.rasterized.pf = c.ticked.pf := rfl
@[simp] theorem Chip.rasterized_horCnt (c : Chip) : c.rasterized.horCnt = c.ticked.horCnt := rfl
@[simp] theorem Chip.rasterized_verCnt (c : Chip) : c.rasterized.verCnt = c.ticked.verCnt := rfl
@[simp] theorem Chip.rasterized_vsyncing (c : Chip) : c.rasterized.vsyncing = c.ticked.vsyncing := rfl
@[simp] theorem Chip.rasterized_wsyncNextLine (c : Chip) : c.rasterized.wsyncNextLine = c.ticked.wsyncNextLine := rfl
@[simp] theorem Chip.rasterized_backgroundColor (c : Chip) : c.rasterized.backgroundColor = c.ticked.backgroundColor := rfl
@[simp] theorem Chip.rasterized_halt (c : Chip) : c.rasterized.halt = c.ticked.halt := rfl
@[simp] theorem Chip.rasterized_frameArmed (c : Chip) : c.rasterized.frameArmed = c.ticked.frameArmed := rfl
@[simp] theorem Chip.rasterized_cx (c : Chip) : c.rasterized.cx = c.cx.update c.colors := rfl
@[simp] theorem Chip.rasterized_resmp0 (c : Chip) : c.rasterized.resmp0 = c.ticked.resmp0 := rfl
@[simp] theorem Chip.rasterized_resmp1 (c : Chip) : c.rasterized.resmp1 = c.ticked.resmp1 := rfl

theorem Chip.rasterized_obj (c : Chip) (i : ObjId) : c.rasterized.obj i = (tick c.pf (c.obj i)).2 := by
  cases i <;> rfl

/-! ## The setters of one record -/

@[simp] theorem GraphicsObject.setDecoders_variant (o : GraphicsObject) (v : List Nat) : (o.setDecoders v).variant = o.variant := rfl
@[simp] theorem GraphicsObject.setDecoders_decoders (o : GraphicsObject) (v : List Nat) : (o.setDecoders v).decoders = v := rfl
@[simp] theorem GraphicsObject.setDecoders_width (o : GraphicsObject) (v : List Nat) : (o.setDecoders v).width = o.width := rfl
@[simp] theorem GraphicsObject.setDecoders_widthCnt (o : GraphicsObject) (v : List Nat) : (o.setDecoders v).widthCnt = o.widthCnt := rfl
@[simp] theorem GraphicsObject.setDecoders_posCnt (o : GraphicsObject) (v : List Nat) : (o.setDecoders v).posCnt = o.posCnt := rfl
@[simp] theorem GraphicsObject.setDecoders_graphics (o : GraphicsObject) (v : List Nat) : (o.setDecoders v).graphics = o.graphics := rfl
@[simp] theorem GraphicsObject.setDecoders_delayedGraphics (o : GraphicsObject) (v : List Nat) : (o.setDecoders v).delayedGraphics = o.delayedGraphics := rfl
@[simp] theorem GraphicsObject.setDecoders_delayed (o : GraphicsObject) (v : List Nat) : (o.setDecoders v).delayed = o.delayed := rfl
@[simp] theorem GraphicsObject.setDecoders_delayCnt (o : GraphicsObject) (v : List Nat) : (o.setDecoders v).delayCnt = o.delayCnt := rfl
@[simp] theorem GraphicsObject.setDecoders_offset (o : GraphicsObject) (v : List Nat) : (o.setDecoders v).offset = o.offset := rfl
@[simp] theorem GraphicsObject.setDecoders_color (o : GraphicsObject) (v : List Nat) : (o.setDecoders v).color = o.color := rfl
@[simp] theorem GraphicsObject.setDecoders_reflected (o : GraphicsObject) (v : List Nat) : (o.setDecoders v).reflected = o.reflected := rfl

@[simp] theorem GraphicsObject.setWidth_variant (o : GraphicsObject) (v : Nat) : (o.setWidth v).variant = o.variant := rfl
@[simp] theorem GraphicsObject.setWidth_decoders (o : GraphicsObject) (v : Nat) : (o.setWidth v).decoders = o.decoders := rfl
@[simp] theorem GraphicsObject.setWidth_width (o : GraphicsObject) (v : Nat) : (o.setWidth v).width = v := rfl
@[simp] theorem GraphicsObject.setWidth_widthCnt (o : GraphicsObject) (v : Nat) : (o.setWidth v).widthCnt = min o.widthCnt v := rfl
@[simp] theorem GraphicsObject.setWidth_posCnt (o : GraphicsObject) (v : Nat) : (o.setWidth v).posCnt = o.posCnt := rfl
@[simp] theorem GraphicsObject.setWidth_graphics (o : GraphicsObject) (v : Nat) : (o.setWidth v).graphics = o.graphics := rfl
@[simp] theorem GraphicsObject.setWidth_delayedGraphics (o : GraphicsObject) (v : Nat) : (o.setWidth v).delayedGraphics = o.delayedGraphics := rfl
@[simp] theorem GraphicsObject.setWidth_delayed (o : GraphicsObject) (v : Nat) : (o.setWidth v).delayed = o.delayed := rfl
@[simp] theorem GraphicsObject.setWidth_delayCnt (o : GraphicsObject) (v : Nat) : (o.setWidth v).delayCnt = o.delayCnt := rfl
@[simp] theorem GraphicsObject.setWidth_offset (o : GraphicsObject) (v : Nat) : (o.setWidth v).offset = o.offset := rfl
@[simp] theorem GraphicsObject.setWidth_color (o : GraphicsObject) (v : Nat) : (o.setWidth v).color = o.color := rfl
@[simp] theorem GraphicsObject.setWidth_reflected (o : GraphicsObject) (v : Nat) : (o.setWidth v).reflected = o.reflected := rfl

@[simp] theorem GraphicsObject.setGraphics_variant (o : GraphicsObject) (v : Byte) : (o.setGraphics v).variant = o.variant := rfl
@[simp] theorem GraphicsObject.setGraphics_decoders (o : GraphicsObject) (v : Byte) : (o.setGraphics v).decoders = o.decoders := rfl
@[simp] theorem GraphicsObject.setGraphics_width (o : GraphicsObject) (v : Byte) : (o.setGraphics v).width = o.width := rfl
@[simp] theorem GraphicsObject.setGraphics_widthCnt (o : GraphicsObject) (v : Byte) : (o.setGraphics v).widthCnt = o.widthCnt := rfl
@[simp] theorem GraphicsObject.setGraphics_posCnt (o : GraphicsObject) (v : Byte) : (o.setGraphics v).posCnt = o.posCnt := rfl
@[simp] theorem GraphicsObject.setGraphics_graphics (o : GraphicsObject) (v : Byte) : (o.setGraphics v).graphics = v := rfl
@[simp] theorem GraphicsObject.setGraphics_delayedGraphics (o : GraphicsObject) (v : Byte) : (o.setGraphics v).delayedGraphics = o.delayedGraphics := rfl
@[simp] theorem GraphicsObject.setGraphics_delayed (o : GraphicsObject) (v : Byte) : (o.setGraphics v).delayed = o.delayed := rfl
@[simp] theorem GraphicsObject.setGraphics_delayCnt (o : GraphicsObject) (v : Byte) : (o.setGraphics v).delayCnt = delayLen := rfl
@[simp] theorem GraphicsObject.setGraphics_offset (o : GraphicsObject) (v : Byte) : (o.setGraphics v).offset = o.offset := rfl
@[simp] theorem GraphicsObject.setGraphics_color (o : GraphicsObject) (v : Byte) : (o.setGraphics v).color = o.color := rfl
@[simp] theorem GraphicsObject.setGraphics_reflected (o : GraphicsObject) (v : Byte) : (o.setGraphics v).reflected = o.reflected := rfl

@[simp] theorem GraphicsObject.setEnabled_variant (o : GraphicsObject) (v : Bool) : (o.setEnabled v).variant = o.variant := rfl
@[simp] theorem GraphicsObject.setEnabled_decoders (o : GraphicsObject) (v : Bool) : (o.setEnabled v).decoders = o.decoders := rfl
@[simp] theorem GraphicsObject.setEnabled_width (o : GraphicsObject) (v : Bool) : (o.setEnabled v).width = o.width := rfl
@[simp] theorem GraphicsObject.setEnabled_widthCnt (o : GraphicsObject) (v : Bool) : (o.setEnabled v).widthCnt = o.widthCnt := rfl
@[simp] theorem GraphicsObject.setEnabled_posCnt (o : GraphicsObject) (v : Bool) : (o.setEnabled v).posCnt = o.posCnt := rfl
@[simp] theorem GraphicsObject.setEnabled_graphics (o : GraphicsObject) (v : Bool) : (o.setEnabled v).graphics = if v then 0xFF else 0x00 := rfl
@[simp] theorem GraphicsObject.setEnabled_delayedGraphics (o : GraphicsObject) (v : Bool) : (o.setEnabled v).delayedGraphics = o.delayedGraphics := rfl
@[simp] theorem GraphicsObject.setEnabled_delayed (o : GraphicsObject) (v : Bool) : (o.setEnabled v).delayed = o.delayed := rfl
@[simp] theorem GraphicsObject.setEnabled_delayCnt (o : GraphicsObject) (v : Bool) : (o.setEnabled v).delayCnt = delayLen := rfl
@[simp] theorem GraphicsObject.setEnabled_offset (o : GraphicsObject) (v : Bool) : (o.setEnabled v).offset = o.offset := rfl
@[simp] theorem GraphicsObject.setEnabled_color (o : GraphicsObject) (v : Bool) : (o.setEnabled v).color = o.color := rfl
@[simp] theorem GraphicsObject.setEnabled_reflected (o : GraphicsObject) (v : Bool) : (o.setEnabled v).reflected = o.reflected := rfl

@[simp] theorem GraphicsObject.setOffset_variant (o : GraphicsObject) (v : Byte) : (o.setOffset v).variant = o.variant := rfl
@[simp] theorem GraphicsObject.setOffset_decoders (o : GraphicsObject) (v : Byte) : (o.setOffset v).decoders = o.decoders := rfl
@[simp] theorem GraphicsObject.setOffset_width (o : GraphicsObject) (v : Byte) : (o.setOffset v).width = o.width := rfl
@[simp] theorem GraphicsObject.setOffset_widthCnt (o : GraphicsObject) (v : Byte) : (o.setOffset v).widthCnt = o.widthCnt := rfl
@[simp] theorem GraphicsObject.setOffset_posCnt (o : GraphicsObject) (v : Byte) : (o.setOffset v).posCnt = o.posCnt := rfl
@[simp] theorem GraphicsObject.setOffset_graphics (o : GraphicsObject) (v : Byte) : (o.setOffset v).graphics = o.graphics := rfl
@[simp] theorem GraphicsObject.setOffset_delayedGraphics (o : GraphicsObject) (v : Byte) : (o.setOffset v).delayedGraphics = o.delayedGraphics := rfl
@[simp] theorem GraphicsObject.setOffset_delayed (o : GraphicsObject) (v : Byte) : (o.setOffset v).delayed = o.delayed := rfl
@[simp] theorem GraphicsObject.setOffset_delayCnt (o : GraphicsObject) (v : Byte) : (o.setOffset v).delayCnt = o.delayCnt := rfl
@[simp] theorem GraphicsObject.setOffset_offset (o : GraphicsObject) (v : Byte) : (o.setOffset v).offset = v := rfl
@[simp] theorem GraphicsObject.setOffset_color (o : GraphicsObject) (v : Byte) : (o.setOffset v).color = o.color := rfl
@[simp] theorem GraphicsObject.setOffset_reflected (o : GraphicsObject) (v : Byte) : (o.setOffset v).reflected = o.reflected := rfl

@[simp] theorem GraphicsObject.setColor_variant (o : GraphicsObject) (v : Byte) : (o.setColor v).variant = o.variant := rfl
@[simp] theorem GraphicsObject.setColor_decoders (o : GraphicsObject) (v : Byte) : (o.setColor v).decoders = o.decoders := rfl
@[simp] theorem GraphicsObject.setColor_width (o : GraphicsObject) (v : Byte) : (o.setColor v).width = o.width := rfl
@[simp] theorem GraphicsObject.setColor_widthCnt (o : GraphicsObject) (v : Byte) : (o.setColor v).widthCnt = o.widthCnt := rfl
@[simp] theorem GraphicsObject.setColor_posCnt (o : GraphicsObject) (v : Byte) : (o.setColor v).posCnt = o.posCnt := rfl
@[simp] theorem GraphicsObject.setColor_graphics (o : GraphicsObject) (v : Byte) : (o.setColor v).graphics = o.graphics := rfl
@[simp] theorem GraphicsObject.setColor_delayedGraphics (o : GraphicsObject) (v : Byte) : (o.setColor v).delayedGraphics = o.delayedGraphics := rfl
@[simp] theorem GraphicsObject.setColor_delayed (o : GraphicsObject) (v : Byte) : (o.setColor v).delayed = o.delayed := rfl
@[simp] theorem GraphicsObject.setColor_delayCnt (o : GraphicsObject) (v : Byte) : (o.setColor v).delayCnt = o.delayCnt := rfl
@[simp] theorem GraphicsObject.setColor_offset (o : GraphicsObject) (v : Byte) : (o.setColor v).offset = o.offset := rfl
@[simp] theorem GraphicsObject.setColor_color (o : GraphicsObject) (v : Byte) : (o.setColor v).color = v := rfl
@[simp] theorem GraphicsObject.setColor_reflected (o : GraphicsObject) (v : Byte) : (o.setColor v).reflected = o.reflected := rfl

@[simp] theorem GraphicsObject.setDelayed_variant (o : GraphicsObject) (v : Bool) : (o.setDelayed v).variant = o.variant := rfl
@[simp] theorem GraphicsObject.setDelayed_decoders (o : GraphicsObject) (v : Bool) : (o.setDelayed v).decoders = o.decoders := rfl
@[simp] theorem GraphicsObject.setDelayed_width (o : GraphicsObject) (v : Bool) : (o.setDelayed v).width = o.width := rfl
@[simp] theorem GraphicsObject.setDelayed_widthCnt (o : GraphicsObject) (v : Bool) : (o.setDelayed v).widthCnt = o.widthCnt := rfl
@[simp] theorem GraphicsObject.setDelayed_posCnt (o : GraphicsObject) (v : Bool) : (o.setDelayed v).posCnt = o.posCnt := rfl
@[simp] theorem GraphicsObject.setDelayed_graphics (o : GraphicsObject) (v : Bool) : (o.setDelayed v).graphics = o.graphics := rfl
@[simp] theorem GraphicsObject.setDelayed_delayedGraphics (o : GraphicsObject) (v : Bool) : (o.setDelayed v).delayedGraphics = o.delayedGraphics := rfl
@[simp] theorem GraphicsObject.setDelayed_delayed (o : GraphicsObject) (v : Bool) : (o.setDelayed v).delayed = v := rfl
@[simp] theorem GraphicsObject.setDelayed_delayCnt (o : GraphicsObject) (v : Bool) : (o.setDelayed v).delayCnt = o.delayCnt := rfl
@[simp] theorem GraphicsObject.setDelayed_offset (o : GraphicsObject) (v : Bool) : (o.setDelayed v).offset = o.offset := rfl
@[simp] theorem GraphicsObject.setDelayed_color (o : GraphicsObject) (v : Bool) : (o.setDelayed v).color = o.color := rfl
@[simp] theorem GraphicsObject.setDelayed_reflected (o : GraphicsObject) (v : Bool) : (o.setDelayed v).reflected = o.reflected := rfl

@[simp] theorem GraphicsObject.setReflected_variant (o : GraphicsObject) (v : Bool) : (o.setReflected v).variant = o.variant := rfl
@[simp] theorem GraphicsObject.setReflected_decoders (o : GraphicsObject) (v : Bool) : (o.setReflected v).decoders = o.decoders := rfl
@[simp] theorem GraphicsObject.setReflected_width (o : GraphicsObject) (v : Bool) : (o.setReflected v).width = o.width := rfl
@[simp] theorem GraphicsObject.setReflected_widthCnt (o : GraphicsObject) (v : Bool) : (o.setReflected v).widthCnt = o.widthCnt := rfl
@[simp] theorem GraphicsObject.setReflected_posCnt (o : GraphicsObject) (v : Bool) : (o.setReflected v).posCnt = o.posCnt := rfl
@[simp] theorem GraphicsObject.setReflected_graphics (o : GraphicsObject) (v : Bool) : (o.setReflected v).graphics = o.graphics := rfl
@[simp] theorem GraphicsObject.setReflected_delayedGraphics (o : GraphicsObject) (v : Bool) : (o.setReflected v).delayedGraphics = o.delayedGraphics := rfl
@[simp] theorem GraphicsObject.setReflected_delayed (o : GraphicsObject) (v : Bool) : (o.setReflected v).delayed = o.delayed := rfl
@[simp] theorem GraphicsObject.setReflected_delayCnt (o : GraphicsObject) (v : Bool) : (o.setReflected v).delayCnt = o.delayCnt := rfl
@[simp] theorem GraphicsObject.setReflected_offset (o : GraphicsObject) (v : Bool) : (o.setReflected v).offset = o.offset := rfl
@[simp] theorem GraphicsObject.setReflected_color (o : GraphicsObject) (v : Bool) : (o.setReflected v).color = o.color := rfl
@[simp] theorem GraphicsObject.setReflected_reflected (o : GraphicsObject) (v : Bool) : (o.setReflected v).reflected = v := rfl

@[simp] theorem GraphicsObject.resetPos_variant (o : GraphicsObject) (h k : Nat) : (o.resetPos h k).variant = o.variant := rfl
@[simp] theorem GraphicsObject.resetPos_decoders (o : GraphicsObject) (h k : Nat) : (o.resetPos h k).decoders = o.decoders := rfl
@[simp] theorem GraphicsObject.resetPos_width (o : GraphicsObject) (h k : Nat) : (o.resetPos h k).width = o.width := rfl
@[simp] theorem GraphicsObject.resetPos_widthCnt (o : GraphicsObject) (h k : Nat) : (o.resetPos h k).widthCnt = o.widthCnt := rfl
@[simp] theorem GraphicsObject.resetPos_graphics (o : GraphicsObject) (h k : Nat) : (o.resetPos h k).graphics = o.graphics := rfl
@[simp] theorem GraphicsObject.resetPos_delayedGraphics (o : GraphicsObject) (h k : Nat) : (o.resetPos h k).delayedGraphics = o.delayedGraphics := rfl
@[simp] theorem GraphicsObject.resetPos_delayed (o : GraphicsObject) (h k : Nat) : (o.resetPos h k).delayed = o.delayed := rfl
@[simp] theorem GraphicsObject.resetPos_delayCnt (o : GraphicsObject) (h k : Nat) : (o.resetPos h k).delayCnt = o.delayCnt := rfl
@[simp] theorem GraphicsObject.resetPos_offset (o : GraphicsObject) (h k : Nat) : (o.resetPos h k).offset = o.offset := rfl
@[simp] theorem GraphicsObject.resetPos_color (o : GraphicsObject) (h k : Nat) : (o.resetPos h k).color = o.color := rfl
@[simp] theorem GraphicsObject.resetPos_reflected (o : GraphicsObject) (h k : Nat) : (o.resetPos h k).reflected = o.reflected := rfl

@[simp] theorem GraphicsObject.move_variant (o : GraphicsObject)  : (o.move).variant = o.variant := by
  unfold GraphicsObject.move; dsimp only; split <;> rfl
@[simp] theorem GraphicsObject.move_decoders (o : GraphicsObject)  : (o.move).decoders = o.decoders := by
  unfold GraphicsObject.move; dsimp only; split <;> rfl
@[simp] theorem GraphicsObject.move_width (o : GraphicsObject)  : (o.move).width = o.width := by
  unfold GraphicsObject.move; dsimp only; split <;> rfl
@[simp] theorem GraphicsObject.move_widthCnt (o : GraphicsObject)  : (o.move).widthCnt = o.widthCnt := by
  unfold GraphicsObject.move; dsimp only; split <;> rfl
@[simp] theorem GraphicsObject.move_graphics (o : GraphicsObject)  : (o.move).graphics = o.graphics := by
  unfold GraphicsObject.move; dsimp only; split <;> rfl
@[simp] theorem GraphicsObject.move_delayedGraphics (o : GraphicsObject)  : (o.move).delayedGraphics = o.delayedGraphics := by
  unfold GraphicsObject.move; dsimp only; split <;> rfl
@[simp] theorem GraphicsObject.move_delayed (o : GraphicsObject)  : (o.move).delayed = o.delayed := by
  unfold GraphicsObject.move; dsimp only; split <;> rfl
@[simp] theorem GraphicsObject.move_delayCnt (o : GraphicsObject)  : (o.move).delayCnt = o.delayCnt := by
  unfold GraphicsObject.move; dsimp only; split <;> rfl
@[simp] theorem GraphicsObject.move_offset (o : GraphicsObject)  : (o.move).offset = o.offset := by
  unfold GraphicsObject.move; dsimp only; split <;> rfl
@[simp] theorem GraphicsObject.move_color (o : GraphicsObject)  : (o.move).color = o.color := by
  unfold GraphicsObject.move; dsimp only; split <;> rfl
@[simp] theorem GraphicsObject.move_reflected (o : GraphicsObject)  : (o.move).reflected = o.reflected := by
  unfold GraphicsObject.move; dsimp only; split <;> rfl

end Sys2Proof.Machine
end

