-- ==== Sys2Proof/Laws/Objects.lean ====
section
/-! SUPPORT. What each operation on one object record does: the tick (40 R113), the position reset (R121), the motion
apply (R123), the width setter (R111), and that each keeps the record in its ranges (10 R43). -/

namespace Sys2Proof.Machine

/-! ## The tick -/

/-- The countdown after the reload of a tick. -/
def GraphicsObject.loaded (o : GraphicsObject) : Nat := if o.posCnt ∈ o.decoders then o.width else o.widthCnt

/-- The latched byte as the colour lookup of a tick sees it. -/
def GraphicsObject.latched (o : GraphicsObject) : Byte := if o.delayCnt = 1 then o.graphics else o.delayedGraphics

/-- The record as the colour lookup of a tick sees it. -/
theorem GraphicsObject.reload_latch (o : GraphicsObject) :
    o.latchStep.reloadStep =
      { o with delayCnt := o.delayCnt - 1, delayedGraphics := o.latched, widthCnt := o.loaded } := by
  rcases o with ⟨v, d, w, wc, p, g, dg, dl, dc, of, co, re⟩
  rcases dc with _ | _ | dc <;>
    by_cases h : p ∈ d <;>
    simp [GraphicsObject.latchStep, GraphicsObject.reloadStep, GraphicsObject.latched, GraphicsObject.loaded, h]

/-- A tick, whole: the new record. -/
theorem tick_snd (pf : Playfield) (o : GraphicsObject) :
    (tick pf o).2 =
      { o with delayCnt := o.delayCnt - 1, delayedGraphics := o.latched, widthCnt := o.loaded - 1,
               posCnt := (o.posCnt + 1) % Config.lineWidth } := by
  simp only [tick, GraphicsObject.reload_latch, GraphicsObject.advanceStep]
  congr 1
  split <;> omega

/-- A tick, whole: the returned colour. -/
theorem tick_fst (pf : Playfield) (o : GraphicsObject) :
    (tick pf o).1 =
      if 0 < o.loaded then
        colorLookup pf
          { o with delayCnt := o.delayCnt - 1, delayedGraphics := o.latched, widthCnt := o.loaded }
      else none := by
  simp only [tick, GraphicsObject.reload_latch]

@[simp] theorem tick_posCnt (pf : Playfield) (o : GraphicsObject) :
    (tick pf o).2.posCnt = (o.posCnt + 1) % Config.lineWidth := by rw [tick_snd]

@[simp] theorem tick_delayCnt (pf : Playfield) (o : GraphicsObject) :
    (tick pf o).2.delayCnt = o.delayCnt - 1 := by rw [tick_snd]

@[simp] theorem tick_delayedGraphics (pf : Playfield) (o : GraphicsObject) :
    (tick pf o).2.delayedGraphics = o.latched := by rw [tick_snd]

@[simp] theorem tick_widthCnt (pf : Playfield) (o : GraphicsObject) :
    (tick pf o).2.widthCnt = o.loaded - 1 := by rw [tick_snd]

@[simp] theorem tick_variant (pf : Playfield) (o : GraphicsObject) :
    (tick pf o).2.variant = o.variant := by rw [tick_snd]

@[simp] theorem tick_decoders (pf : Playfield) (o : GraphicsObject) :
    (tick pf o).2.decoders = o.decoders := by rw [tick_snd]

@[simp] theorem tick_width (pf : Playfield) (o : GraphicsObject) :
    (tick pf o).2.width = o.width := by rw [tick_snd]

@[simp] theorem tick_graphics (pf : Playfield) (o : GraphicsObject) :
    (tick pf o).2.graphics = o.graphics := by rw [tick_snd]

@[simp] theorem tick_delayed (pf : Playfield) (o : GraphicsObject) :
    (tick pf o).2.delayed = o.delayed := by rw [tick_snd]

@[simp] theorem tick_offset (pf : Playfield) (o : GraphicsObject) :
    (tick pf o).2.offset = o.offset := by rw [tick_snd]

@[simp] theorem tick_color (pf : Playfield) (o : GraphicsObject) :
    (tick pf o).2.color = o.color := by rw [tick_snd]

@[simp] theorem tick_reflected (pf : Playfield) (o : GraphicsObject) :
    (tick pf o).2.reflected = o.reflected := by rw [tick_snd]

/-- A tick leaves `pos_cnt` in range, from every record. -/
theorem tick_posCnt_lt (pf : Playfield) (o : GraphicsObject) : (tick pf o).2.posCnt < Config.lineWidth := by
  rw [tick_posCnt]; exact Nat.mod_lt _ (by decide)

theorem GraphicsObject.loaded_le {o : GraphicsObject} (h : o.widthCnt ≤ o.width) : o.loaded ≤ o.width := by
  unfold GraphicsObject.loaded; split <;> omega

theorem tick_inRange (pf : Playfield) {o : GraphicsObject} (h : o.InRange) : (tick pf o).2.InRange := by
  obtain ⟨-, hw, hd, hl⟩ := h
  refine ⟨tick_posCnt_lt pf o, ?_, by simpa using hd, by simp; omega⟩
  have := GraphicsObject.loaded_le hw
  simp; omega

theorem tick_enableBytes (pf : Playfield) {o : GraphicsObject} (h : o.EnableBytes) :
    (tick pf o).2.EnableBytes := by
  refine ⟨by simpa using h.1, ?_⟩
  simp only [tick_delayedGraphics, GraphicsObject.latched]
  split
  · exact h.1
  · exact h.2

/-! ## The other writers of a counter -/

theorem GraphicsObject.setWidth_inRange (n : Nat) {o : GraphicsObject} (h : o.InRange) : (o.setWidth n).InRange :=
  ⟨h.1, by simp, h.2.2.1, h.2.2.2⟩

theorem GraphicsObject.setDecoders_inRange {d : List Nat} (hd : d ∈ legalDecoderSets) {o : GraphicsObject}
    (h : o.InRange) : (o.setDecoders d).InRange := ⟨h.1, h.2.1, hd, h.2.2.2⟩

theorem GraphicsObject.setGraphics_inRange (b : Byte) {o : GraphicsObject} (h : o.InRange) :
    (o.setGraphics b).InRange := ⟨h.1, h.2.1, h.2.2.1, Nat.le_refl _⟩

theorem GraphicsObject.resetPos_posCnt_lt (h k : Nat) (o : GraphicsObject) :
    (o.resetPos h k).posCnt < Config.lineWidth := by
  simp only [GraphicsObject.resetPos, Config.lineWidth]; omega

theorem GraphicsObject.resetPos_inRange (a b : Nat) {o : GraphicsObject} (h : o.InRange) :
    (o.resetPos a b).InRange := ⟨o.resetPos_posCnt_lt a b, h.2.1, h.2.2.1, h.2.2.2⟩

theorem GraphicsObject.move_posCnt (o : GraphicsObject) :
    o.move.posCnt =
      if (motionNibble o.offset).toNat < 8 then (o.posCnt + (motionNibble o.offset).toNat) % Config.lineWidth
      else (((o.posCnt : Int) - (16 - (motionNibble o.offset).toNat)) % (Config.lineWidth : Int)).toNat := by
  unfold GraphicsObject.move; dsimp only; split <;> rfl

theorem GraphicsObject.move_posCnt_lt (o : GraphicsObject) : o.move.posCnt < Config.lineWidth := by
  rw [GraphicsObject.move_posCnt]; simp only [Config.lineWidth]; split <;> omega

theorem GraphicsObject.move_inRange {o : GraphicsObject} (h : o.InRange) : o.move.InRange := by
  refine ⟨o.move_posCnt_lt, ?_, ?_, ?_⟩ <;> simp [h.2.1, h.2.2.1, h.2.2.2]

/-- Every row of the count/size table holds a legal decoder set and a legal player width (45 R203). -/
theorem nusizTable_legal (code : BitVec 3) :
    (nusizTable code).1 ∈ legalDecoderSets ∧ (nusizTable code).2 ∈ [8, 16, 32] := by
  revert code; decide

/-- The width field holds one of the four narrow widths (45 R202). -/
theorem spanWidth_legal (val : Byte) : spanWidth val ∈ [1, 2, 4, 8] := by
  have : ∀ k : BitVec 2, 1 <<< k.toNat ∈ [1, 2, 4, 8] := by decide
  exact this _

/-- A byte read back carries nothing below bit 6 (46 R260). -/
theorem packRead_low (a b : Bool) : (packRead a b).toNat % 64 = 0 := by cases a <;> cases b <;> rfl

end Sys2Proof.Machine
end

