-- ==== Sys2Proof/Laws/PerInstr.lean ====
section
/-! SUPPORT. Statements about every event as syntax, one lemma per constructor.
TableRow: the canonical word of a well-formed event lies in its own row of spec/opcode_table.json. -/

namespace Sys2Proof.Laws

/-- The word an event encodes to has its row's "match" under its row's "mask". -/
def TableRow.Statement (i : Instr) : Prop :=
  encode i &&& i.tableRow.2 = i.tableRow.1

theorem TableRow.vsync (val : Byte) : TableRow.Statement (.vsync val) := writeWord_row _ val
theorem TableRow.wsync (val : Byte) : TableRow.Statement (.wsync val) := writeWord_row _ val
theorem TableRow.rsync (val : Byte) : TableRow.Statement (.rsync val) := writeWord_row _ val
theorem TableRow.nusiz0 (val : Byte) : TableRow.Statement (.nusiz0 val) := writeWord_row _ val
theorem TableRow.nusiz1 (val : Byte) : TableRow.Statement (.nusiz1 val) := writeWord_row _ val
theorem TableRow.colup0 (val : Byte) : TableRow.Statement (.colup0 val) := writeWord_row _ val
theorem TableRow.colup1 (val : Byte) : TableRow.Statement (.colup1 val) := writeWord_row _ val
theorem TableRow.colupf (val : Byte) : TableRow.Statement (.colupf val) := writeWord_row _ val
theorem TableRow.colubk (val : Byte) : TableRow.Statement (.colubk val) := writeWord_row _ val
theorem TableRow.ctrlpf (val : Byte) : TableRow.Statement (.ctrlpf val) := writeWord_row _ val
theorem TableRow.refp0 (val : Byte) : TableRow.Statement (.refp0 val) := writeWord_row _ val
theorem TableRow.refp1 (val : Byte) : TableRow.Statement (.refp1 val) := writeWord_row _ val
theorem TableRow.pf0 (val : Byte) : TableRow.Statement (.pf0 val) := writeWord_row _ val
theorem TableRow.pf1 (val : Byte) : TableRow.Statement (.pf1 val) := writeWord_row _ val
theorem TableRow.pf2 (val : Byte) : TableRow.Statement (.pf2 val) := writeWord_row _ val
theorem TableRow.resp0 (val : Byte) : TableRow.Statement (.resp0 val) := writeWord_row _ val
theorem TableRow.resp1 (val : Byte) : TableRow.Statement (.resp1 val) := writeWord_row _ val
theorem TableRow.resm0 (val : Byte) : TableRow.Statement (.resm0 val) := writeWord_row _ val
theorem TableRow.resm1 (val : Byte) : TableRow.Statement (.resm1 val) := writeWord_row _ val
theorem TableRow.resbl (val : Byte) : TableRow.Statement (.resbl val) := writeWord_row _ val
theorem TableRow.grp0 (val : Byte) : TableRow.Statement (.grp0 val) := writeWord_row _ val
theorem TableRow.grp1 (val : Byte) : TableRow.Statement (.grp1 val) := writeWord_row _ val
theorem TableRow.enam0 (val : Byte) : TableRow.Statement (.enam0 val) := writeWord_row _ val
theorem TableRow.enam1 (val : Byte) : TableRow.Statement (.enam1 val) := writeWord_row _ val
theorem TableRow.enabl (val : Byte) : TableRow.Statement (.enabl val) := writeWord_row _ val
theorem TableRow.hmp0 (val : Byte) : TableRow.Statement (.hmp0 val) := writeWord_row _ val
theorem TableRow.hmp1 (val : Byte) : TableRow.Statement (.hmp1 val) := writeWord_row _ val
theorem TableRow.hmm0 (val : Byte) : TableRow.Statement (.hmm0 val) := writeWord_row _ val
theorem TableRow.hmm1 (val : Byte) : TableRow.Statement (.hmm1 val) := writeWord_row _ val
theorem TableRow.hmbl (val : Byte) : TableRow.Statement (.hmbl val) := writeWord_row _ val
theorem TableRow.vdelp0 (val : Byte) : TableRow.Statement (.vdelp0 val) := writeWord_row _ val
theorem TableRow.vdelp1 (val : Byte) : TableRow.Statement (.vdelp1 val) := writeWord_row _ val
theorem TableRow.vdelbl (val : Byte) : TableRow.Statement (.vdelbl val) := writeWord_row _ val
theorem TableRow.resmp0 (val : Byte) : TableRow.Statement (.resmp0 val) := writeWord_row _ val
theorem TableRow.resmp1 (val : Byte) : TableRow.Statement (.resmp1 val) := writeWord_row _ val
theorem TableRow.hmove (val : Byte) : TableRow.Statement (.hmove val) := writeWord_row _ val
theorem TableRow.hmclr (val : Byte) : TableRow.Statement (.hmclr val) := writeWord_row _ val
theorem TableRow.cxclr (val : Byte) : TableRow.Statement (.cxclr val) := writeWord_row _ val
theorem TableRow.wnop (addr : Byte) (val : Byte) : TableRow.Statement (.wnop addr val) := writeWord_kind addr val
theorem TableRow.cxm0p : TableRow.Statement .cxm0p := readWord_row _
theorem TableRow.cxm1p : TableRow.Statement .cxm1p := readWord_row _
theorem TableRow.cxp0fb : TableRow.Statement .cxp0fb := readWord_row _
theorem TableRow.cxp1fb : TableRow.Statement .cxp1fb := readWord_row _
theorem TableRow.cxm0fb : TableRow.Statement .cxm0fb := readWord_row _
theorem TableRow.cxm1fb : TableRow.Statement .cxm1fb := readWord_row _
theorem TableRow.cxblpf : TableRow.Statement .cxblpf := readWord_row _
theorem TableRow.cxppmm : TableRow.Statement .cxppmm := readWord_row _
theorem TableRow.rzero (addr : Byte) : TableRow.Statement (.rzero addr) := readWord_kind addr
theorem TableRow.clk : TableRow.Statement .clk := by unfold TableRow.Statement; decide
theorem TableRow.init : TableRow.Statement .init := by unfold TableRow.Statement; decide

end Sys2Proof.Laws
end

