-- ==== Sys2Proof/Laws/Timing.lean ====
section
/-! SUPPORT. What one colour clock does, said once: the advance (42 R151, R152), the resume strobe (R153), the video
work (R155, R156). -/

namespace Sys2Proof.Machine

/-- The beam position after one colour clock. -/
theorem Chip.advance_horCnt (c : Chip) :
    c.advance.horCnt = if c.horCnt + 1 = Config.lineTotal then 0 else c.horCnt + 1 := by
  unfold Chip.advance Chip.armResume; split <;> [split; skip] <;> rfl

theorem Chip.advance_verCnt (c : Chip) :
    c.advance.verCnt = if c.horCnt + 1 = Config.lineTotal then c.verCnt + 1 else c.verCnt := by
  unfold Chip.advance Chip.armResume; split <;> [split; skip] <;> rfl

/-- The pending flag is armed at a wrap with the CPU halted, and at no other moment. -/
theorem Chip.advance_wsyncNextLine (c : Chip) :
    c.advance.wsyncNextLine = (c.wsyncNextLine || (decide (c.horCnt + 1 = Config.lineTotal) && c.halt)) := by
  unfold Chip.advance Chip.armResume
  split <;> [split; skip] <;> simp_all

/-- The advance writes the beam position and the pending flag, nothing else. -/
theorem Chip.advance_eq (c : Chip) :
    c.advance =
      { c with horCnt := c.advance.horCnt, verCnt := c.advance.verCnt, wsyncNextLine := c.advance.wsyncNextLine } := by
  unfold Chip.advance Chip.armResume; split <;> [split; skip] <;> rfl

/-- The block after the resume strobe. -/
theorem State.resumeStrobe_chip (s : State) :
    s.resumeStrobe.chip =
      if s.chip.resumes then { s.chip with wsyncNextLine := false, halt := false } else s.chip := by
  unfold State.resumeStrobe; split <;> rfl

theorem State.resumeStrobe_outputs (s : State) :
    s.resumeStrobe.outputs = if s.chip.resumes then .resume :: s.outputs else s.outputs := by
  unfold State.resumeStrobe; split <;> rfl

theorem State.resumeStrobe_wires (s : State) :
    s.resumeStrobe.cpuCycles = s.cpuCycles ∧ s.resumeStrobe.inputs = s.inputs ∧
      s.resumeStrobe.reads = s.reads := by
  unfold State.resumeStrobe; split <;> exact ⟨rfl, rfl, rfl⟩

@[simp] theorem State.forwardPixel_chip (b : Byte) (s : State) : (s.forwardPixel b).chip = s.chip := by
  unfold State.forwardPixel; split <;> rfl

theorem State.forwardPixel_outputs (b : Byte) (s : State) :
    (s.forwardPixel b).outputs =
      if s.chip.frameArmed ∧ Config.vblankLines ≤ s.chip.verCnt then
        .pixel (s.chip.horCnt - Config.lineStart) (s.chip.verCnt - Config.vblankLines) b :: s.outputs
      else s.outputs := by
  unfold State.forwardPixel; split <;> rfl

theorem State.forwardPixel_wires (b : Byte) (s : State) :
    (s.forwardPixel b).cpuCycles = s.cpuCycles ∧ (s.forwardPixel b).inputs = s.inputs ∧
      (s.forwardPixel b).reads = s.reads := by
  unfold State.forwardPixel; split <;> exact ⟨rfl, rfl, rfl⟩

/-- The block between the resume strobe and the video work of one colour clock. -/
def Chip.strobed (c : Chip) : Chip :=
  if c.advance.resumes then { c.advance with wsyncNextLine := false, halt := false } else c.advance

theorem State.strobed_chip (s : State) : (s.updChip Chip.advance).resumeStrobe.chip = s.chip.strobed := by
  rw [State.resumeStrobe_chip]; rfl

@[simp] theorem Chip.strobed_horCnt (c : Chip) : c.strobed.horCnt = c.advance.horCnt := by
  unfold Chip.strobed; split <;> rfl

@[simp] theorem Chip.strobed_verCnt (c : Chip) : c.strobed.verCnt = c.advance.verCnt := by
  unfold Chip.strobed; split <;> rfl

/-- The strobe writes no object record. -/
theorem Chip.strobed_eq (c : Chip) :
    c.strobed =
      { c with horCnt := c.advance.horCnt, verCnt := c.advance.verCnt, wsyncNextLine := c.strobed.wsyncNextLine,
               halt := c.strobed.halt } := by
  unfold Chip.strobed
  have h := Chip.advance_eq c
  split
  · rw [h]
  · rw [h]

/-- The block after one colour clock: the video work where the new counter is visible. -/
theorem State.colorClock_chip (s : State) :
    s.colorClock.chip =
      if Config.lineStart ≤ s.chip.advance.horCnt then s.chip.strobed.rasterized else s.chip.strobed := by
  have h := State.strobed_chip s
  unfold State.colorClock
  dsimp only
  rw [h, Chip.strobed_horCnt]
  split
  · unfold State.video; rw [State.forwardPixel_chip, State.updChip_chip, h]
  · exact h

/-- The output events of one colour clock, the resume before the pixel. -/
theorem State.colorClock_outputs (s : State) :
    s.colorClock.outputs =
      (if Config.lineStart ≤ s.chip.advance.horCnt ∧ s.chip.frameArmed ∧
            Config.vblankLines ≤ s.chip.advance.verCnt then
        [.pixel (s.chip.advance.horCnt - Config.lineStart) (s.chip.advance.verCnt - Config.vblankLines)
          s.chip.strobed.pixelColor]
       else []) ++ (if s.chip.advance.resumes then [.resume] else []) ++ s.outputs := by
  have h := State.strobed_chip s
  have hf : s.chip.strobed.frameArmed = s.chip.frameArmed := by rw [Chip.strobed_eq]
  have ho : (s.updChip Chip.advance).resumeStrobe.outputs =
      (if s.chip.advance.resumes then [.resume] else []) ++ s.outputs := by
    rw [State.resumeStrobe_outputs]; simp only [State.updChip_chip, State.updChip_outputs]
    by_cases hr : s.chip.advance.resumes = true <;> simp [hr]
  unfold State.colorClock
  dsimp only
  rw [h, Chip.strobed_horCnt]
  by_cases hv : Config.lineStart ≤ s.chip.advance.horCnt
  · simp only [hv, if_true, true_and]
    unfold State.video
    rw [State.forwardPixel_outputs]
    simp only [State.updChip_chip, State.updChip_outputs, h, ho, Chip.rasterized_frameArmed, Chip.ticked_frameArmed,
      Chip.rasterized_verCnt, Chip.ticked_verCnt, Chip.rasterized_horCnt, Chip.ticked_horCnt, Chip.strobed_horCnt,
      Chip.strobed_verCnt, hf]
    split <;> simp
  · simp only [hv, if_false, false_and, ho, List.nil_append]

/-- One colour clock touches no wire but the outputs. -/
theorem State.colorClock_wires (s : State) :
    s.colorClock.cpuCycles = s.cpuCycles ∧ s.colorClock.inputs = s.inputs ∧ s.colorClock.reads = s.reads := by
  obtain ⟨h1, h2, h3⟩ := State.resumeStrobe_wires (s.updChip Chip.advance)
  unfold State.colorClock
  dsimp only
  split
  · unfold State.video
    obtain ⟨k1, k2, k3⟩ := State.forwardPixel_wires (s.updChip Chip.advance).resumeStrobe.chip.pixelColor
      ((s.updChip Chip.advance).resumeStrobe.updChip Chip.rasterized)
    exact ⟨k1.trans h1, k2.trans h2, k3.trans h3⟩
  · exact ⟨h1, h2, h3⟩

end Sys2Proof.Machine
end

