-- ==== Sys2Proof/Laws/Writes.lean ====
section
/-! SUPPORT. What the shared operations behind the register writes do: the frame boundary (42 R160), the position reset
(40 R121), the count/size register (45 R204). -/

namespace Sys2Proof.Machine

/-- An accepted rising edge writes three fields of the block. -/
theorem State.frameBoundary_chip (s : State) :
    s.frameBoundary.chip = { s.chip with vsyncing := true, verCnt := 0, frameArmed := true } := by
  unfold State.frameBoundary; dsimp only; split <;> rfl

/-- It presents a frame unless it is the first. -/
theorem State.frameBoundary_outputs (s : State) :
    s.frameBoundary.outputs = if s.chip.frameArmed then .framePresent :: s.outputs else s.outputs := by
  unfold State.frameBoundary; dsimp only; split <;> rfl

theorem State.frameBoundary_wires (s : State) :
    s.frameBoundary.cpuCycles = s.cpuCycles ∧ s.frameBoundary.inputs = s.inputs ∧
      s.frameBoundary.reads = s.reads := by
  unfold State.frameBoundary; dsimp only; split <;> exact ⟨rfl, rfl, rfl⟩

/-- A position reset changes one record's `pos_cnt` and nothing else of the block. -/
theorem State.positionReset_chip (o : ObjId) (s : State) :
    (s.positionReset o).chip = s.chip.modObj (GraphicsObject.resetPos s.chip.horCnt s.cpuCycles) o := rfl

theorem State.positionReset_wires (o : ObjId) (s : State) :
    (s.positionReset o).cpuCycles = s.cpuCycles ∧ (s.positionReset o).inputs = s.inputs ∧
      (s.positionReset o).outputs = s.outputs ∧ (s.positionReset o).reads = s.reads := ⟨rfl, rfl, rfl, rfl⟩

/-- A count/size register reaches the missile and the player it names, and no other record. -/
theorem Chip.configureSize_obj_ne (m p : ObjId) (v : Byte) (c : Chip) {j : ObjId} (hm : j ≠ m) (hp : j ≠ p) :
    (c.configureSize m p v).obj j = c.obj j := by
  simp only [Chip.configureSize, Chip.modObj_obj, hm, hp, if_false]

/-- An event list runs one event after another. -/
theorem execAll_cons_next {i : Instr} {is : List Instr} {s t : State} (h : exec i s = .next t) :
    execAll (i :: is) s = execAll is t := by simp only [execAll, h]

/-- One more colour clock at the front of a run of them. -/
theorem clocks_succ (n : Nat) (s : State) : clocks (n + 1) s = clocks n s.colorClock := rfl

/-- `n` colour clocks always complete, in the `n`-fold iterate of one. -/
theorem clocks_eq (n : Nat) (s : State) : clocks n s = .next (State.colorClock^[n] s) := by
  induction n generalizing s with
  | zero => rfl
  | succ n ih => rw [clocks_succ, ih]; rfl

end Sys2Proof.Machine
end

