-- ==== Sys2Proof/Machine/Trace.lean ====
section
/-! DEFINITION. The trace syntax of the spec's examples (spec/30_encoding.md R103): each line of a trace and the
events it stands for. The mnemonics are the spec's labels (93 GK1; log entry 29); nothing in the machine reads them. -/

namespace Sys2Proof.Machine

/-- The mnemonics of the write map (30 R101). -/
def writeMnemonics : List (String × Byte) :=
  [("VSYNC", 0x00), ("WSYNC", 0x02), ("RSYNC", 0x03), ("NUSIZ0", 0x04), ("NUSIZ1", 0x05), ("COLUP0", 0x06),
   ("COLUP1", 0x07), ("COLUPF", 0x08), ("COLUBK", 0x09), ("CTRLPF", 0x0a), ("REFP0", 0x0b), ("REFP1", 0x0c),
   ("PF0", 0x0d), ("PF1", 0x0e), ("PF2", 0x0f), ("RESP0", 0x10), ("RESP1", 0x11), ("RESM0", 0x12),
   ("RESM1", 0x13)] ++
  [("RESBL", 0x14), ("GRP0", 0x1b), ("GRP1", 0x1c), ("ENAM0", 0x1d), ("ENAM1", 0x1e), ("ENABL", 0x1f),
   ("HMP0", 0x20), ("HMP1", 0x21), ("HMM0", 0x22), ("HMM1", 0x23), ("HMBL", 0x24), ("VDELP0", 0x25),
   ("VDELP1", 0x26), ("VDELBL", 0x27), ("RESMP0", 0x28), ("RESMP1", 0x29), ("HMOVE", 0x2a), ("HMCLR", 0x2b),
   ("CXCLR", 0x2c)]

/-- The strobe registers (30 R98). -/
def strobeAddresses : List Byte := [0x02, 0x03, 0x10, 0x11, 0x12, 0x13, 0x14, 0x2a, 0x2b, 0x2c]

/-- The mnemonics of the read map (30 R102). -/
def readMnemonics : List (String × Byte) :=
  [("CXM0P", 0x00), ("CXM1P", 0x01), ("CXP0FB", 0x02), ("CXP1FB", 0x03), ("CXM0FB", 0x04), ("CXM1FB", 0x05),
   ("CXBLPF", 0x06), ("CXPPMM", 0x07)]

/-- One line of a trace (R103). -/
inductive TraceLine where
  | init
  | clk
  /-- `CLK n`: n consecutive CLK events -/
  | clks (n : Nat)
  /-- `W addr val cyc=n`; without `cyc=` the count is 0 (spec/95_test_vectors.md, notation) -/
  | write (addr val : Byte) (cyc : Nat)
  | read (addr : Byte)
  /-- `MNEMONIC val` -/
  | named (mnemonic : String) (val : Byte)
  /-- `MNEMONIC`: a strobe or a read -/
  | bare (mnemonic : String)
deriving DecidableEq, Repr

/-- The events a line stands for; `none` where the syntax has no such line. -/
def TraceLine.expand : TraceLine → Option (List BusEvent)
  | .init => some [{ word := initWord, cyc := 0 }]
  | .clk => some [{ word := clkWord, cyc := 0 }]
  | .clks n => some (List.replicate n { word := clkWord, cyc := 0 })
  | .write addr val cyc => some [{ word := writeWord addr val, cyc := cyc }]
  | .read addr => some [{ word := readWord addr, cyc := 0 }]
  | .named m val => (writeMnemonics.lookup m).map fun addr => [{ word := writeWord addr val, cyc := 0 }]
  | .bare m =>
    match writeMnemonics.lookup m, readMnemonics.lookup m with
    | some addr, _ => if addr ∈ strobeAddresses then some [{ word := writeWord addr 0x00, cyc := 0 }] else none
    | none, some addr => some [{ word := readWord addr, cyc := 0 }]
    | none, none => none

end Sys2Proof.Machine
end

