-- ==== Sys2Proof/Tests/Slice0.lean ====
section
/-! SUPPORT. Tests of the model on fixed values, and a witness for every obligation that has hypotheses. The expected
words and values are written out from spec/30_encoding.md (R90 to R103) and spec/95_test_vectors.md. -/

namespace Sys2Proof.Tests

open Sys2Proof.Machine

/-! ## Small states -/

/-- The reset state with the block changed. -/
def chipWith (f : Chip → Chip) : State := { State.reset with chip := f Chip.init }

/-- The reset state with the beam at (h, v). -/
def beamAt (h v : Nat) : State := chipWith fun c => { c with horCnt := h, verCnt := v }

/-- The state after one event, where there is one. -/
def after (i : Instr) (s : State) : Option State :=
  match exec i s with
  | .next t => some t
  | .fault _ => none
  | .refused _ => none

/-- The state after one step, where there is one. -/
def stepped (s : State) : Option State :=
  match step s with
  | .next t => some t
  | .fault _ => none
  | .refused _ => none

/-- One event in the queue. -/
def queued (w : EventWord) (cyc : Nat) (s : State) : State := { s with inputs := [{ word := w, cyc := cyc }] }

/-! ## Well-formedness: each check refuses an ill-formed event -/

theorem test_wnop_of_a_matched_address_is_ill_formed : (Instr.wnop 0x00 0x12).wellFormed = false := by decide

theorem test_wnop_of_the_last_matched_address_is_ill_formed : (Instr.wnop 0x2c 0x00).wellFormed = false := by decide

theorem test_rzero_of_a_matched_address_is_ill_formed : (Instr.rzero 0x07).wellFormed = false := by decide

/-! ## Decoding: every constructor, by a word written out from 30 R91 to R94, R101, R102 -/

theorem test_decode_timing_words :
    decode 0x10002 = .ok (.vsync 0x02) ∧ decode 0x10200 = .ok (.wsync 0x00) ∧ decode 0x103A5 = .ok (.rsync 0xA5) ∧
      decode 0x20000 = .ok .clk ∧ decode 0x3FFFF = .ok .clk ∧ decode 0x40000 = .ok .init ∧
      decode 0x5ABCD = .ok .init := ⟨rfl, rfl, rfl, rfl, rfl, rfl, rfl⟩

theorem test_decode_size_and_colour_words :
    decode 0x10433 = .ok (.nusiz0 0x33) ∧ decode 0x10506 = .ok (.nusiz1 0x06) ∧ decode 0x1061E = .ok (.colup0 0x1E) ∧
      decode 0x10784 = .ok (.colup1 0x84) ∧ decode 0x1080E = .ok (.colupf 0x0E) ∧
      decode 0x10902 = .ok (.colubk 0x02) := ⟨rfl, rfl, rfl, rfl, rfl, rfl⟩

theorem test_decode_control_and_pattern_words :
    decode 0x10A20 = .ok (.ctrlpf 0x20) ∧ decode 0x10B08 = .ok (.refp0 0x08) ∧ decode 0x10CF7 = .ok (.refp1 0xF7) ∧
      decode 0x10D50 = .ok (.pf0 0x50) ∧ decode 0x10E80 = .ok (.pf1 0x80) ∧ decode 0x10F55 = .ok (.pf2 0x55) :=
  ⟨rfl, rfl, rfl, rfl, rfl, rfl⟩

theorem test_decode_position_reset_words :
    decode 0x11000 = .ok (.resp0 0x00) ∧ decode 0x11101 = .ok (.resp1 0x01) ∧ decode 0x11200 = .ok (.resm0 0x00) ∧
      decode 0x113FF = .ok (.resm1 0xFF) ∧ decode 0x11400 = .ok (.resbl 0x00) := ⟨rfl, rfl, rfl, rfl, rfl⟩

theorem test_decode_graphics_and_enable_words :
    decode 0x11B81 = .ok (.grp0 0x81) ∧ decode 0x11C18 = .ok (.grp1 0x18) ∧ decode 0x11D02 = .ok (.enam0 0x02) ∧
      decode 0x11EFD = .ok (.enam1 0xFD) ∧ decode 0x11F02 = .ok (.enabl 0x02) := ⟨rfl, rfl, rfl, rfl, rfl⟩

theorem test_decode_motion_words :
    decode 0x12030 = .ok (.hmp0 0x30) ∧ decode 0x121E0 = .ok (.hmp1 0xE0) ∧ decode 0x12270 = .ok (.hmm0 0x70) ∧
      decode 0x12380 = .ok (.hmm1 0x80) ∧ decode 0x124F0 = .ok (.hmbl 0xF0) ∧ decode 0x12A00 = .ok (.hmove 0x00) ∧
      decode 0x12B55 = .ok (.hmclr 0x55) := ⟨rfl, rfl, rfl, rfl, rfl, rfl, rfl⟩

theorem test_decode_delay_reserved_and_clear_words :
    decode 0x12501 = .ok (.vdelp0 0x01) ∧ decode 0x126FE = .ok (.vdelp1 0xFE) ∧ decode 0x12701 = .ok (.vdelbl 0x01) ∧
      decode 0x128AB = .ok (.resmp0 0xAB) ∧ decode 0x12902 = .ok (.resmp1 0x02) ∧
      decode 0x12C00 = .ok (.cxclr 0x00) := ⟨rfl, rfl, rfl, rfl, rfl, rfl⟩

/-- The unmatched writes: 0x01, the gap 0x15 to 0x1a, and everything above 0x2c (45 R240). -/
theorem test_decode_unmatched_write_words :
    decode 0x101FF = .ok (.wnop 0x01 0xFF) ∧ decode 0x11500 = .ok (.wnop 0x15 0x00) ∧
      decode 0x11A7F = .ok (.wnop 0x1A 0x7F) ∧ decode 0x12D01 = .ok (.wnop 0x2D 0x01) ∧
      decode 0x1FFFF = .ok (.wnop 0xFF 0xFF) := ⟨rfl, rfl, rfl, rfl, rfl⟩

theorem test_decode_read_words :
    decode 0x00000 = .ok .cxm0p ∧ decode 0x00100 = .ok .cxm1p ∧ decode 0x00200 = .ok .cxp0fb ∧
      decode 0x003FF = .ok .cxp1fb ∧ decode 0x00400 = .ok .cxm0fb ∧ decode 0x00500 = .ok .cxm1fb ∧
      decode 0x00600 = .ok .cxblpf ∧ decode 0x0077E = .ok .cxppmm ∧ decode 0x00800 = .ok (.rzero 0x08) ∧
      decode 0x0FF01 = .ok (.rzero 0xFF) := ⟨rfl, rfl, rfl, rfl, rfl, rfl, rfl, rfl, rfl, rfl⟩

/-- `kind = 11` spells no event, whatever the other bits (R100). -/
theorem test_decode_refuses_kind_three :
    decode 0x60000 = .error .invalidKind ∧ decode 0x7FFFF = .error .invalidKind ∧
      decode 0x70902 = .error .invalidKind := ⟨rfl, rfl, rfl⟩

theorem test_encode_words :
    encode (.colubk 0x02) = 0x10902 ∧ encode (.resbl 0xFF) = 0x114FF ∧ encode (.wnop 0xFF 0x01) = 0x1FF01 ∧
      encode .cxblpf = 0x00600 ∧ encode (.rzero 0x3C) = 0x03C00 ∧ encode .clk = 0x20000 ∧ encode .init = 0x40000 := by
  decide

/-- The host's numbering: a number with a bit above bit 18 is no event word (92 D19). -/
theorem test_table_words :
    decodeTableWord 24 0x10902 = some (.colubk 0x02) ∧ decodeTableWord 24 0x00600 = some .cxblpf ∧
      decodeTableWord 24 0x20000 = some .clk ∧ decodeTableWord 24 0x60000 = none ∧
      decodeTableWord 24 0x80000 = none := ⟨rfl, rfl, rfl, rfl, rfl⟩

theorem test_fetch_word_is_run_by_the_next_step :
    stepped (State.reset.withFetchWord 24 0x10902) =
      some (chipWith fun c => { c with backgroundColor := 0x02 }) := by decide

theorem test_invalid_word_is_refused :
    step (queued 0x61234 0 State.reset) = .refused (.invalidEventWord 0x61234) := rfl

/-! ## The trace syntax (30 R103) -/

theorem test_trace_named_write :
    (TraceLine.named "COLUBK" 0x02).expand = some [{ word := 0x10902, cyc := 0 }] := by decide

theorem test_trace_bare_strobe_and_read :
    (TraceLine.bare "WSYNC").expand = some [{ word := 0x10200, cyc := 0 }] ∧
      (TraceLine.bare "CXBLPF").expand = some [{ word := 0x00600, cyc := 0 }] ∧
      (TraceLine.bare "COLUBK").expand = none := by decide

theorem test_trace_cyc_and_repeat :
    (TraceLine.write 0x10 0x00 3).expand = some [{ word := 0x11000, cyc := 3 }] ∧
      (TraceLine.clks 2).expand = some [{ word := 0x20000, cyc := 0 }, { word := 0x20000, cyc := 0 }] := by decide

/-! ## The host's schedule (20 R78, 70 R316) -/

/-- Accesses three clocks apart on any phase are admitted, one clock apart on none. -/
theorem test_ratio_three :
    let w : BusEvent := { word := 0x10902, cyc := 0 }
    let clk : BusEvent := { word := 0x20000, cyc := 0 }
    let init : BusEvent := { word := 0x40000, cyc := 0 }
    Ratio3 [init, clk, w, clk, clk, clk, w, w] = true ∧ Ratio3 [w, clk, w] = false := by decide

/-! ## One event: the timing controller (95 section 2.7, Programs 1, 2, 5) -/

/-- The wrap with the CPU halted arms the pending flag (Program 1, row 5). -/
theorem test_clk_wraps_and_arms :
    (after .clk (chipWith fun c => { c with horCnt := 227, halt := true })).map
        (fun t => (t.chip.horCnt, t.chip.verCnt, t.chip.wsyncNextLine, t.chip.halt)) =
      some (0, 1, true, true) := by decide

/-- At `hor_cnt = 6` the CPU resumes (Program 1, row 7). -/
theorem test_clk_resumes_at_six :
    (after .clk (chipWith fun c => { c with horCnt := 5, halt := true, wsyncNextLine := true })).map
        (fun t => (t.chip.horCnt, t.chip.wsyncNextLine, t.chip.halt, t.outputs)) =
      some (6, false, false, [.resume]) := by decide

/-- The first pixel of the first forwarded line (Program 2, row 8). -/
theorem test_clk_forwards_the_first_pixel :
    (after .clk (chipWith fun c =>
        { c with horCnt := 67, verCnt := 40, frameArmed := true, backgroundColor := 0x02,
                 p0 := { c.p0 with graphics := 0x81, color := 0x1E } })).map
        (fun t => (t.chip.horCnt, t.chip.p0.widthCnt, t.chip.p0.posCnt, t.outputs)) =
      some (68, 7, 1, [.pixel 0 0 0x1E]) := by decide

theorem test_vsync_first_edge_arms_without_a_frame :
    (after (.vsync 0x02) (beamAt 3 9)).map
        (fun t => (t.chip.vsyncing, t.chip.verCnt, t.chip.frameArmed, t.chip.horCnt, t.outputs)) =
      some (true, 0, true, 3, []) := by decide

theorem test_vsync_later_edge_presents_a_frame :
    (after (.vsync 0xFF) (chipWith fun c => { c with verCnt := 262, frameArmed := true })).map
        (fun t => (t.chip.verCnt, t.outputs)) =
      some (0, [.framePresent]) := by decide

theorem test_wsync_halts_without_arming :
    (after (.wsync 0x00) (beamAt 100 0)).map (fun t => (t.chip.halt, t.chip.wsyncNextLine)) = some (true, false) := by
  decide

theorem test_rsync_resets_the_counter_without_a_line :
    (after (.rsync 0xFF) (beamAt 150 7)).map (fun t => (t.chip.horCnt, t.chip.verCnt)) = some (0, 7) := by decide

/-! ## One event: the register writes (95 T2, T3, sections 2.3 to 2.5, 2.10) -/

theorem test_nusiz0_code_six_forces_width_32 :
    (after (.nusiz0 0x06) State.reset).map
        (fun t => (t.chip.m0.decoders, t.chip.p0.decoders, t.chip.p0.width, t.chip.m0.width)) =
      some ([0, 32, 64], [0, 32, 64], 32, 1) := by decide

/-- The clamp of a span in progress (V-W2). -/
theorem test_nusiz0_clamps_a_span :
    (after (.nusiz0 0x00) (chipWith fun c => { c with p0 := { c.p0 with width := 32, widthCnt := 21 } })).map
        (fun t => (t.chip.p0.width, t.chip.p0.widthCnt)) =
      some (8, 8) := by decide

theorem test_nusiz1_code_three_and_missile_width :
    (after (.nusiz1 0x33) State.reset).map
        (fun t => (t.chip.m1.decoders, t.chip.m1.width, t.chip.p1.width, t.chip.m0.width)) =
      some ([0, 16, 32], 8, 8, 1) := by decide

theorem test_colup0_and_colup1 :
    (after (.colup0 0x1E) State.reset).map (fun t => (t.chip.p0.color, t.chip.m0.color, t.chip.pf.scoreColorLeft)) =
        some (0x1E, 0x1E, 0x1E) ∧
      (after (.colup1 0x84) State.reset).map (fun t => (t.chip.p1.color, t.chip.m1.color, t.chip.pf.scoreColorRight)) =
        some (0x84, 0x84, 0x84) := by decide

theorem test_colupf_and_colubk :
    (after (.colupf 0x0E) State.reset).map (fun t => (t.chip.pf.color, t.chip.bl.color, t.chip.p0.color)) =
        some (0x0E, 0x0E, 0x00) ∧
      (after (.colubk 0x9A) State.reset).map (fun t => t.chip.backgroundColor) = some 0x9A := by decide

/-- V-W5: the three flags and the ball's width; bits 3, 6, 7 are ignored. -/
theorem test_ctrlpf_fields :
    (after (.ctrlpf 0x37) State.reset).map
        (fun t => (t.chip.pf.reflected, t.chip.pf.scoreMode, t.chip.pf.priority, t.chip.bl.width)) =
        some (true, true, true, 8) ∧
      (after (.ctrlpf 0xC8) State.reset).map
        (fun t => (t.chip.pf.reflected, t.chip.pf.scoreMode, t.chip.pf.priority, t.chip.bl.width)) =
        some (false, false, false, 1) := by decide

theorem test_refp_bit_three :
    (after (.refp0 0x08) State.reset).map (fun t => (t.chip.p0.reflected, t.chip.p1.reflected)) = some (true, false) ∧
      (after (.refp1 0xF7) State.reset).map (fun t => t.chip.p1.reflected) = some false := by decide

theorem test_pattern_registers :
    (after (.pf0 0x5A) State.reset).map (fun t => t.chip.pf.reg0) = some 0x5A ∧
      (after (.pf1 0xAA) State.reset).map (fun t => t.chip.pf.reg1) = some 0xAA ∧
      (after (.pf2 0x55) State.reset).map (fun t => t.chip.pf.reg2) = some 0x55 := by decide

/-- The rows of 95 section 2.4 around the correction, and a large count. -/
theorem test_position_resets :
    (after (.resp0 0x00) { beamAt 100 0 with cpuCycles := 3 }).map (fun t => t.chip.p0.posCnt) = some 152 ∧
      (after (.resp1 0xFF) { beamAt 67 0 with cpuCycles := 3 }).map (fun t => t.chip.p1.posCnt) = some 153 ∧
      (after (.resm0 0x00) { beamAt 68 0 with cpuCycles := 3 }).map (fun t => t.chip.m0.posCnt) = some 152 ∧
      (after (.resm1 0x00) { beamAt 100 0 with cpuCycles := 54 }).map (fun t => t.chip.m1.posCnt) = some 159 ∧
      (after (.resbl 0x00) { beamAt 10 0 with cpuCycles := 0 }).map (fun t => t.chip.bl.posCnt) = some 1 ∧
      (after (.resbl 0x00) { beamAt 30 0 with cpuCycles := 1000 }).map (fun t => t.chip.bl.posCnt) = some 41 := by
  decide

theorem test_graphics_arm_the_latch :
    (after (.grp0 0x81) State.reset).map (fun t => (t.chip.p0.graphics, t.chip.p0.delayCnt, t.chip.p1.delayCnt)) =
        some (0x81, 160, 0) ∧
      (after (.grp1 0x18) State.reset).map (fun t => (t.chip.p1.graphics, t.chip.p1.delayCnt, t.chip.p0.delayCnt)) =
        some (0x18, 160, 0) := by decide

theorem test_enables :
    (after (.enam0 0x02) State.reset).map (fun t => (t.chip.m0.graphics, t.chip.m0.delayCnt)) = some (0xFF, 160) ∧
      (after (.enam1 0xFD) State.reset).map (fun t => (t.chip.m1.graphics, t.chip.m1.delayCnt)) = some (0x00, 160) ∧
      (after (.enabl 0x02) State.reset).map (fun t => (t.chip.bl.graphics, t.chip.bl.delayCnt)) = some (0xFF, 160) := by
  decide

theorem test_motion_registers :
    (after (.hmp0 0x3F) State.reset).map (fun t => (t.chip.p0.offset, t.chip.p0.posCnt)) = some (0x3F, 0) ∧
      (after (.hmp1 0xE0) State.reset).map (fun t => t.chip.p1.offset) = some 0xE0 ∧
      (after (.hmm0 0x70) State.reset).map (fun t => t.chip.m0.offset) = some 0x70 ∧
      (after (.hmm1 0x80) State.reset).map (fun t => t.chip.m1.offset) = some 0x80 ∧
      (after (.hmbl 0xF0) State.reset).map (fun t => t.chip.bl.offset) = some 0xF0 := by decide

theorem test_delay_enables :
    (after (.vdelp0 0x01) State.reset).map (fun t => (t.chip.p0.delayed, t.chip.p0.delayCnt)) = some (true, 0) ∧
      (after (.vdelp1 0xFE) State.reset).map (fun t => t.chip.p1.delayed) = some false ∧
      (after (.vdelbl 0xFF) State.reset).map (fun t => t.chip.bl.delayed) = some true := by decide

theorem test_reserved_bytes :
    (after (.resmp0 0xAB) State.reset).map (fun t => (t.chip.resmp0, t.chip.resmp1)) = some (0xAB, 0x00) ∧
      (after (.resmp1 0x02) State.reset).map (fun t => (t.chip.resmp0, t.chip.resmp1)) = some (0x00, 0x02) := by decide

/-- V-H1: nibbles 3, E, 7, 8, F from position 0. -/
theorem test_hmove_signed_nibbles :
    (after (.hmove 0x00) (chipWith fun c =>
        { c with p0 := { c.p0 with offset := 0x3F }, p1 := { c.p1 with offset := 0xE0 },
                 m0 := { c.m0 with offset := 0x70 }, m1 := { c.m1 with offset := 0x80 },
                 bl := { c.bl with offset := 0xF0 } })).map
        (fun t => (t.chip.p0.posCnt, t.chip.p1.posCnt, t.chip.m0.posCnt, t.chip.m1.posCnt, t.chip.bl.posCnt,
          t.chip.pf.posCnt)) =
      some (3, 158, 7, 152, 159, 0) := by decide

theorem test_hmclr_keeps_positions :
    (after (.hmclr 0x55) (chipWith fun c => { c with m1 := { c.m1 with offset := 0x80, posCnt := 152 } })).map
        (fun t => (t.chip.m1.offset, t.chip.m1.posCnt)) =
      some (0x00, 152) := by decide

theorem test_cxclr :
    (after (.cxclr 0xFF) (chipWith fun c => { c with cx := { c.cx with blpf := true, m0m1 := true } })).map
        (fun t => t.chip.cx) = some Collisions.clear := by decide

theorem test_unmatched_write : after (.wnop 0x15 0xFF) (beamAt 72 1) = some (beamAt 72 1) := by decide

/-! ## One event: the reads and INIT (95 section 2.8, 46 R261 to R269) -/

theorem test_player_and_missile_reads :
    (after .cxm0p (chipWith fun c => { c with cx := { c.cx with m0p0 := true } })).map (fun t => t.reads) = some [0x40] ∧
      (after .cxm1p (chipWith fun c => { c with cx := { c.cx with m1p0 := true } })).map (fun t => t.reads) =
        some [0x80] ∧
      (after .cxppmm (chipWith fun c => { c with cx := { c.cx with p0p1 := true, m0m1 := true } })).map
        (fun t => t.reads) = some [0xC0] := by decide

theorem test_playfield_and_ball_reads :
    (after .cxp0fb (chipWith fun c => { c with cx := { c.cx with p0pf := true } })).map (fun t => t.reads) =
        some [0x80] ∧
      (after .cxp1fb (chipWith fun c => { c with cx := { c.cx with p1bl := true } })).map (fun t => t.reads) =
        some [0x40] ∧
      (after .cxm0fb (chipWith fun c => { c with cx := { c.cx with m0bl := true } })).map (fun t => t.reads) =
        some [0x40] ∧
      (after .cxm1fb (chipWith fun c => { c with cx := { c.cx with m1pf := true } })).map (fun t => t.reads) =
        some [0x80] ∧
      (after .cxblpf (chipWith fun c => { c with cx := { c.cx with blpf := true } })).map (fun t => t.reads) =
        some [0x80] := by decide

theorem test_unmatched_read :
    (after (.rzero 0x3C) (chipWith fun c => { c with cx := { c.cx with blpf := true } })).map (fun t => t.reads) =
      some [0x00] := by decide

theorem test_init_from_a_used_state :
    (after .init (chipWith fun c =>
        { c with horCnt := 99, halt := true, frameArmed := true, resmp0 := 0xAB,
                 p0 := { c.p0 with width := 32, decoders := [0, 32, 64], delayCnt := 7 } })).map
        (fun t => t.chip) = some Chip.init := by decide

/-! ## The shared pure functions -/

/-- 95 T6: bits 7 and 0 of 0x81 are the first and the eighth dot. -/
theorem test_player_lookup :
    let o := fun n => { GraphicsObject.init .player 8 with graphics := 0x81, color := 0x1E, widthCnt := n }
    [8, 7, 2, 1].map (fun n => colorLookup Playfield.init (o n)) = [some 0x1E, none, none, some 0x1E] := by decide

/-- V-F3 and V-F4: the bit order of the three registers and the mirror. -/
theorem test_playfield_lookup :
    let pf := fun (r : Bool) (n : Nat) =>
      { Playfield.init with reg0 := 0x10, reg1 := 0x80, reg2 := 0x01, color := 0x01, reflected := r, posCnt := n }
    [0, 4, 16, 48, 80, 96, 128].map (fun n => (playfieldColor (pf false n)).isSome) =
        [true, false, true, true, true, true, true] ∧
      [80, 108, 140, 156].map (fun n => (playfieldColor (pf true n)).isSome) = [false, true, true, true] := by decide

/-- The rows of 44 R194's table with everything emitting. -/
theorem test_composite :
    let c : Colors := { p0 := some 1, p1 := some 2, m0 := some 3, m1 := some 4, bl := some 5, pf := some 6 }
    composite c false 0 = 3 ∧ composite c true 0 = 5 ∧
      composite { p0 := none, p1 := none, m0 := none, m1 := none, bl := none, pf := none } true 9 = 9 := by decide

/-! ## Witnesses: states and operands that meet the hypotheses of each obligation that has some -/

theorem witness_step_applies_the_decoded_event :
    (queued 0x11000 3 State.reset).inputs = { word := 0x11000, cyc := 3 } :: [] ∧
      decode 0x11000 = .ok (.resp0 0x00) := ⟨rfl, rfl⟩

theorem witness_no_event : State.reset.inputs = [] := rfl

theorem witness_invalid_kind :
    (queued 0x60000 0 State.reset).inputs = [{ word := 0x60000, cyc := 0 }] ∧
      (0x60000 : EventWord).toNat / 2 ^ 17 = 3 ∧ (0x7FFFF : EventWord).toNat / 2 ^ 17 = 3 := by decide

theorem witness_well_formed_events :
    (Instr.wnop 0x01 0xFF).wellFormed = true ∧ (Instr.wnop 0x15 0x00).wellFormed = true ∧
      (Instr.wnop 0x2D 0x00).wellFormed = true ∧ (Instr.rzero 0x08).wellFormed = true ∧
      (Instr.rzero 0xFF).wellFormed = true ∧ (Instr.colubk 0x02).wellFormed = true ∧ Instr.clk.wellFormed = true := by
  decide

/-- One word for each branch of `EncodeOfDecodeIsTheCanonicalWord`. -/
theorem witness_decoded_words :
    (decode 0x10902 = .ok (.colubk 0x02) ∧ (0x10902 : EventWord).toNat / 2 ^ 17 = 0 ∧
        (0x10902 : EventWord).toNat / 2 ^ 16 % 2 = 1) ∧
      (decode 0x006FF = .ok .cxblpf ∧ (0x006FF : EventWord).toNat / 2 ^ 16 % 2 = 0) ∧
      (decode 0x2ABCD = .ok .clk ∧ (0x2ABCD : EventWord).toNat / 2 ^ 17 = 1) ∧
      (decode 0x5FFFF = .ok .init ∧ (0x5FFFF : EventWord).toNat / 2 ^ 17 = 2) :=
  ⟨⟨rfl, by decide, by decide⟩, ⟨rfl, by decide⟩, ⟨rfl, by decide⟩, ⟨rfl, by decide⟩⟩

theorem witness_table_row_of_a_decoded_word :
    decode 0x1061E = .ok (.colup0 0x1E) ∧ (Instr.colup0 0x00).tableRow.2 = 0x7FF00 ∧
      (0x1061E : EventWord) &&& 0x7FF00 = (Instr.colup0 0x00).tableRow.1 := ⟨rfl, by decide, by decide⟩

theorem witness_ranges_and_invariants :
    (beamAt 227 0).chip.InRange ∧ (queued 0x20000 0 (beamAt 227 0)).chip.Inv ∧
      (stepped (queued 0x20000 0 (beamAt 227 0))).isSome = true :=
  ⟨by decide, ⟨by decide, by decide, by decide, by decide⟩, by decide⟩

theorem witness_latches :
    exec .init State.reset = .next State.reset ∧
      (let s := chipWith fun c => { c with cx := { c.cx with blpf := true } }
       (after .clk s).isSome = true ∧ s.chip.cx.get .blpf = true) := ⟨rfl, by decide⟩

/-- One state for each of the three output events. -/
theorem witness_outputs :
    (after .clk (chipWith fun c => { c with horCnt := 5, wsyncNextLine := true })).map (fun t => t.outputs) =
        some [.resume] ∧
      (after .clk (chipWith fun c => { c with horCnt := 226, verCnt := 40, frameArmed := true })).map
        (fun t => t.outputs) = some [.pixel 159 0 0x00] ∧
      (after (.vsync 0x02) (chipWith fun c => { c with frameArmed := true })).map (fun t => t.outputs) =
        some [.framePresent] := by decide

theorem witness_timing_fields :
    (after (.colup0 0x1E) (chipWith fun c => { c with frameArmed := true })).isSome = true ∧
      Instr.colup0 0x1E ≠ .init ∧ Instr.colup0 0x1E ≠ .clk := by decide

theorem witness_no_pixel :
    (beamAt 67 40).chip.frameArmed = false ∧ (∀ v, Instr.vsync v ∉ [Instr.clk, .rsync 0x00]) ∧
      execAll [.clk, .rsync 0x00] (beamAt 67 40) =
        .next (((beamAt 67 40).colorClock).updChip fun c => { c with horCnt := 0 }) :=
  ⟨rfl, by simp, rfl⟩

/-- The last clause of `VisibleClkTicksEachObjectOnce`. -/
theorem witness_delayed_byte :
    (after (.grp0 0x81) State.reset).isSome = true ∧ Instr.grp0 0x81 ≠ .clk ∧ Instr.grp0 0x81 ≠ .init := by decide

theorem witness_line_of_ticks :
    (beamAt 0 0).chip.horCnt < 228 ∧ (beamAt 227 0).chip.horCnt < 228 ∧
      ({ GraphicsObject.init .ball 1 with posCnt := 159 } : GraphicsObject).posCnt < 160 ∧
      ((beamAt 227 0).chip.obj .BL).posCnt < 160 := by decide

/-- Two states that differ in a colour, the score mode, a motion register, the line, the sync and halt flags and a
reserved byte. -/
theorem witness_colourless_states :
    let s := chipWith fun c => { c with horCnt := 80 }
    let u := chipWith fun c =>
      { c with horCnt := 80, verCnt := 50, frameArmed := true, vsyncing := true, halt := true, resmp0 := 0xAB,
               p0 := { c.p0 with color := 0x1E, offset := 0x30 }, pf := { c.pf with color := 0x0E, scoreMode := true } }
    s ≠ u ∧ s.chip.colorless = u.chip.colorless ∧ (after .clk s).isSome = true ∧ (after .clk u).isSome = true := by
  decide

theorem witness_halt_does_not_stop :
    let s := chipWith fun c => { c with horCnt := 67 }
    (after .clk s).isSome = true ∧
      (after .clk { s with chip := { s.chip with halt := true, wsyncNextLine := true } }).isSome = true := by decide

/-- The two ends of a span. -/
theorem witness_player_lookup :
    let o := fun n => { GraphicsObject.init .player 32 with widthCnt := n }
    (o 1).variant = .player ∧ 1 ≤ (o 1).widthCnt ∧ (o 1).widthCnt ≤ (o 1).width ∧ 1 ≤ (o 32).widthCnt ∧
      (o 32).widthCnt ≤ (o 32).width := by decide

/-- The premises of `PlayerSpanShowsItsBitmap`. -/
abbrev SpanPremises (m k : Nat) (o : GraphicsObject) : Prop :=
  o.variant = .player ∧ (m = 1 ∨ m = 2 ∨ m = 4) ∧ o.width = 8 * m ∧ o.posCnt ∈ o.decoders ∧
    (∀ j, j < o.width → 0 < j → (o.posCnt + j) % 160 ∉ o.decoders) ∧ k < o.width

/-- The three widths, at the last dot, the widest with the decoder set that leaves it the least room; one delayed player
with nothing pending, one with the copy in the last tick of the span. -/
theorem witness_player_span :
    SpanPremises 1 7 { GraphicsObject.init .player 8 with decoders := [0, 16, 32], posCnt := 16 } ∧
      SpanPremises 2 15 { GraphicsObject.init .player 16 with delayed := true } ∧
      SpanPremises 4 31
        { GraphicsObject.init .player 32 with decoders := [0, 32, 64], posCnt := 32, delayed := true, delayCnt := 32 } :=
  ⟨by decide, by decide, by decide⟩

theorem witness_missile_and_ball :
    (GraphicsObject.init .missile 1).variant = .missile ∧ (GraphicsObject.init .ball 1).variant = .ball ∧
      (GraphicsObject.init .ball 1).delayed = false := by decide

theorem witness_playfield_lookup :
    Playfield.init.variant = .playfield ∧ ({ Playfield.init with posCnt := 0 } : Playfield).posCnt < 160 ∧
      ({ Playfield.init with posCnt := 159 } : Playfield).posCnt < 160 := by decide

theorem witness_right_half : (0 : Nat) < 80 ∧ (79 : Nat) < 80 := by decide

theorem witness_blank_playfield :
    let pf : Playfield := { Playfield.init with reg0 := 0x0F, scoreMode := true, posCnt := 159 }
    pf.variant = .playfield ∧ pf.reg0.toNat < 16 ∧ pf.reg1 = 0x00 ∧ pf.reg2 = 0x00 ∧ pf.posCnt < 160 := by decide

/-- No resume pending at the two ends of a line; one pending on both sides of the strobe. -/
theorem witness_wsync :
    let p := fun h => chipWith fun c => { c with horCnt := h, wsyncNextLine := true }
    (beamAt 0 0).chip.horCnt < 228 ∧ (beamAt 227 3).chip.horCnt < 228 ∧ (beamAt 227 3).chip.wsyncNextLine = false ∧
      (p 0).chip.horCnt < 228 ∧ (p 5).chip.horCnt < 228 ∧ (p 6).chip.horCnt < 228 ∧ (p 5).chip.wsyncNextLine = true := by
  decide

theorem witness_low_nibble : (0xF0 : Byte).toNat / 16 = (0xFF : Byte).toNat / 16 := by decide

theorem witness_reserved_bytes :
    Instr.clk ≠ .init ∧ (∀ v, Instr.clk ≠ .resmp0 v) ∧ (∀ v, Instr.clk ≠ .resmp1 v) ∧
      exec .clk (beamAt 67 40) = .next (beamAt 67 40).colorClock := ⟨by decide, by simp, by simp, rfl⟩

theorem witness_motion_clear : ∀ o : ObjId, (State.reset.chip.obj o).posCnt < 160 := by
  intro o; cases o <;> decide

/-- The ends of the three unmatched ranges. -/
theorem witness_unmatched_writes :
    let ok := fun (w : EventWord) (a v : Byte) =>
      w.toNat = 0x10000 + 256 * a.toNat + v.toNat ∧
        (a.toNat = 0x01 ∨ (0x15 ≤ a.toNat ∧ a.toNat ≤ 0x1a) ∨ 0x2d ≤ a.toNat)
    ok 0x101FF 0x01 0xFF ∧ ok 0x11500 0x15 0x00 ∧ ok 0x11A00 0x1A 0x00 ∧ ok 0x12D00 0x2D 0x00 ∧
      ok 0x1FFFF 0xFF 0xFF := by decide

theorem witness_unmatched_reads :
    (0x00800 ≤ (0x00800 : EventWord).toNat ∧ (0x00800 : EventWord).toNat < 0x10000) ∧
      (0x00800 ≤ (0x0FFFF : EventWord).toNat ∧ (0x0FFFF : EventWord).toNat < 0x10000) := by decide

theorem witness_reads_and_others :
    (after (.rzero 0x3C) State.reset).isSome = true ∧ (after .cxblpf State.reset).isSome = true ∧
      (after (.colubk 0x02) State.reset).isSome = true := by decide

/-- Before the window, at its two ends and in it: each position is the ticks of the line (`k = 0`), and an RSYNC or a
CLK follows. -/
theorem witness_playfield_aligned :
    (∀ h ∈ [0, 67, 68, 100, 227],
      let s := chipWith fun c => { c with horCnt := h, pf := { c.pf with posCnt := ticksOfLine h % 160 } }
      s.chip.horCnt < 228 ∧ s.chip.pf.posCnt = (ticksOfLine s.chip.horCnt + 0) % 160 ∧
        (after .clk s).isSome = true ∧ (after (.rsync 0x00) s).isSome = true) ∧
      Instr.clk ≠ .init ∧ Instr.rsync 0x00 ≠ .init ∧ (∀ v, Instr.clk ≠ .rsync v) :=
  ⟨by decide, by decide, by decide, by simp⟩

/-- Both branches of `DelayLatchCopiesAfterOneLine`, at their ends, and its first and last write. -/
theorem witness_delay_latch :
    (beamAt 0 0).chip.horCnt < 228 ∧ ¬ 68 ≤ (beamAt 67 0).chip.horCnt ∧ 68 ≤ (beamAt 68 0).chip.horCnt ∧
      (beamAt 227 0).chip.horCnt < 228 ∧
      (let writes := [(Instr.grp0 0x02, ObjId.P0, (0x02 : Byte)), (.grp1 0x02, .P1, 0x02), (.enam0 0x02, .M0, 0xFF),
        (.enam1 0x02, .M1, 0xFF), (.enabl 0x02, .BL, 0xFF)]
       (Instr.grp0 0x02, ObjId.P0, (0x02 : Byte)) ∈ writes ∧ (Instr.enabl 0x02, ObjId.BL, (0xFF : Byte)) ∈ writes) := by
  decide

end Sys2Proof.Tests
end

section
/-! SUPPORT. What INIT does (spec/10_state.md R50 to R54): the next state, its six object records and its latches. -/

namespace Sys2Proof.Machine

/-- The meaning of INIT: it completes from every state, and the block it leaves does not depend on the old one. -/
theorem exec_init (s : State) : exec .init s = .next (s.updChip fun _ => Chip.init) := rfl

/-- Every latch reads 0 after `clear()` (43 R182). -/
@[simp] theorem Collisions.clear_get (l : Latch) : Collisions.clear.get l = false := by
  cases l <;> rfl

/-- All six records are made by the one initialiser, so they differ in the variant tag and the width only (R50, R51). -/
theorem Chip.init_obj (o : ObjId) : ∃ v w, Chip.init.obj o = GraphicsObject.init v w := by
  cases o <;> exact ⟨_, _, rfl⟩

/-- Settles O52: each record is an initialised one, whatever its tag and width, and the matrix is a cleared one. -/
theorem initZeroesObjectsAndLatches : Obligations.InitZeroesObjectsAndLatches := by
  intro s
  refine ⟨_, exec_init s, fun o => ?_, Collisions.clear_get⟩
  obtain ⟨v, w, hobj⟩ := Chip.init_obj o
  rw [State.updChip_chip, hobj]
  exact ⟨rfl, rfl, rfl, rfl, rfl, rfl, rfl, rfl, rfl⟩

end Sys2Proof.Machine
end

section
/-! SUPPORT. The beam and the positions over a line of colour clocks (spec/42_scan_timing.md R151, R154, R158;
spec/40_graphics_object.md R118): what one clock does to each, and what never changes along the line. -/

namespace Sys2Proof.Machine

/-! ## Ticks of one record -/

/-- `n` ticks advance the position by `n`, mod the line width. -/
theorem GraphicsObject.ticked_posCnt (pf : Playfield) (n : Nat) {o : GraphicsObject}
    (h : o.posCnt < Config.lineWidth) : (o.ticked pf n).posCnt = (o.posCnt + n) % Config.lineWidth := by
  induction n with
  | zero => exact (Nat.mod_eq_of_lt h).symm
  | succ n ih =>
    rw [GraphicsObject.ticked, Function.iterate_succ_apply', tick_posCnt, ← GraphicsObject.ticked, ih,
      Nat.mod_add_mod, Nat.add_assoc]

/-! ## One colour clock -/

/-- The advance and the resume strobe write no object record. -/
@[simp] theorem Chip.strobed_obj (c : Chip) (o : ObjId) : c.strobed.obj o = c.obj o := by
  rw [Chip.strobed_eq]; cases o <;> rfl

/-- The beam of one colour clock is the beam of its advance. -/
@[simp] theorem State.colorClock_horCnt (s : State) : s.colorClock.chip.horCnt = s.chip.advance.horCnt := by
  rw [State.colorClock_chip]; split <;> simp

@[simp] theorem State.colorClock_verCnt (s : State) : s.colorClock.chip.verCnt = s.chip.advance.verCnt := by
  rw [State.colorClock_chip]; split <;> simp

/-- A colour clock advances a position exactly where its new counter is visible. -/
theorem State.colorClock_posCnt (s : State) (o : ObjId) :
    (s.colorClock.chip.obj o).posCnt =
      if Config.lineStart ≤ s.chip.advance.horCnt then ((s.chip.obj o).posCnt + 1) % Config.lineWidth
      else (s.chip.obj o).posCnt := by
  rw [State.colorClock_chip]
  split
  · rw [Chip.rasterized_obj, tick_posCnt, Chip.strobed_obj]
  · rw [Chip.strobed_obj]

theorem State.colorClock_posCnt_lt {s : State} {o : ObjId} (h : (s.chip.obj o).posCnt < Config.lineWidth) :
    (s.colorClock.chip.obj o).posCnt < Config.lineWidth := by
  rw [State.colorClock_posCnt]
  split
  · exact Nat.mod_lt _ (by decide)
  · exact h

/-! ## The beam -/

/-- The colour clocks from the start of line 0 to the beam. -/
def Chip.beamClock (c : Chip) : Nat := Config.lineTotal * c.verCnt + c.horCnt

theorem Chip.advance_horCnt_lt {c : Chip} (h : c.horCnt < Config.lineTotal) :
    c.advance.horCnt < Config.lineTotal := by
  rw [Chip.advance_horCnt]; split <;> omega

theorem State.colorClock_horCnt_lt {s : State} (h : s.chip.horCnt < Config.lineTotal) :
    s.colorClock.chip.horCnt < Config.lineTotal := by
  rw [State.colorClock_horCnt]; exact Chip.advance_horCnt_lt h

/-- An advance moves the beam by one clock, over the wrap too. -/
theorem Chip.advance_beamClock (c : Chip) : c.advance.beamClock = c.beamClock + 1 := by
  unfold Chip.beamClock
  rw [Chip.advance_horCnt, Chip.advance_verCnt]
  split
  · rw [Nat.mul_succ]; omega
  · rfl

theorem State.colorClock_beamClock (s : State) : s.colorClock.chip.beamClock = s.chip.beamClock + 1 := by
  rw [← Chip.advance_beamClock]; simp [Chip.beamClock]

/-- The clock count of a beam in range tells its line and its place in the line. -/
theorem Chip.beam_of_beamClock {c d : Chip} (hc : c.horCnt < Config.lineTotal) (hd : d.horCnt < Config.lineTotal)
    (h : d.beamClock = c.beamClock + Config.lineTotal) : d.horCnt = c.horCnt ∧ d.verCnt = c.verCnt + 1 := by
  simp only [Chip.beamClock, Config.lineTotal, Config.lineStart, Config.lineWidth] at *
  omega

/-! ## The place of an object on the line -/

/-- The blank has no ticks, which the subtraction on naturals says without a case. -/
theorem ticksOfLine_eq (h : Nat) : ticksOfLine h = h + 1 - Config.lineStart := by
  unfold ticksOfLine; split <;> omega

/-- The position less the ticks the line has had: where the object stands on the line, whatever the beam does. -/
def Chip.linePlace (c : Chip) (o : ObjId) : Nat :=
  ((c.obj o).posCnt + (Config.lineWidth - ticksOfLine c.horCnt)) % Config.lineWidth

/-- On one beam position the place tells the position. -/
theorem Chip.posCnt_of_linePlace {c d : Chip} {o : ObjId} (hhor : d.horCnt = c.horCnt)
    (hd : (d.obj o).posCnt < Config.lineWidth) (hc : (c.obj o).posCnt < Config.lineWidth)
    (h : d.linePlace o = c.linePlace o) : (d.obj o).posCnt = (c.obj o).posCnt := by
  rw [Chip.linePlace, Chip.linePlace, hhor] at h
  exact Nat.ModEq.eq_of_lt_of_lt (Nat.ModEq.add_right_cancel' _ h) hd hc

/-- A clock that moves the position moves the tick count of the line with it, and the wrap takes back the
`lineWidth` ticks of a whole line. -/
theorem State.colorClock_linePlace {s : State} (h : s.chip.horCnt < Config.lineTotal) (o : ObjId) :
    s.colorClock.chip.linePlace o = s.chip.linePlace o := by
  simp only [Chip.linePlace, State.colorClock_horCnt, State.colorClock_posCnt, Chip.advance_horCnt, ticksOfLine_eq]
  simp only [Config.lineTotal, Config.lineStart, Config.lineWidth, Nat.reduceAdd, Nat.reduceEqDiff] at h ⊢
  by_cases hwrap : s.chip.horCnt = 227
  · simp [hwrap]
  · by_cases hvisible : 68 ≤ s.chip.horCnt + 1
    · simp only [if_neg hwrap, if_pos hvisible]; omega
    · simp only [if_neg hwrap, if_neg hvisible]; omega

/-! ## A run of colour clocks -/

theorem State.colorClocks_horCnt_lt {s : State} (h : s.chip.horCnt < Config.lineTotal) (n : Nat) :
    (State.colorClock^[n] s).chip.horCnt < Config.lineTotal :=
  Function.Iterate.rec (fun t : State => t.chip.horCnt < Config.lineTotal)
    h (fun _ ht => State.colorClock_horCnt_lt ht) n

theorem State.colorClocks_posCnt_lt {s : State} {o : ObjId} (h : (s.chip.obj o).posCnt < Config.lineWidth) (n : Nat) :
    ((State.colorClock^[n] s).chip.obj o).posCnt < Config.lineWidth :=
  Function.Iterate.rec (fun t : State => (t.chip.obj o).posCnt < Config.lineWidth)
    h (fun _ ht => State.colorClock_posCnt_lt ht) n

theorem State.colorClocks_beamClock (n : Nat) (s : State) :
    (State.colorClock^[n] s).chip.beamClock = s.chip.beamClock + n := by
  induction n with
  | zero => rfl
  | succ n ih => rw [Function.iterate_succ_apply', State.colorClock_beamClock, ih, Nat.add_assoc]

theorem State.colorClocks_linePlace {s : State} (h : s.chip.horCnt < Config.lineTotal) (o : ObjId) (n : Nat) :
    (State.colorClock^[n] s).chip.linePlace o = s.chip.linePlace o := by
  induction n with
  | zero => rfl
  | succ n ih =>
    rw [Function.iterate_succ_apply', State.colorClock_linePlace (State.colorClocks_horCnt_lt h n), ih]

end Sys2Proof.Machine
end

section
/-! SUPPORT. The statements on a record's position and a player's lookup (spec/40_graphics_object.md R114, R118). -/

namespace Sys2Proof.Machine

/-! ## Position -/

/-- Settles O19: the ticks of a record add up mod the line width, and along a line of clocks the beam comes back one
line down while every object keeps its place on the line. -/
theorem lineOfTicksRestoresPositions : Obligations.LineOfTicksRestoresPositions := by
  refine ⟨tick_posCnt_lt, fun pf o h => ?_, fun s hs => ⟨_, clocks_eq 228 s, ?_⟩⟩
  · rw [GraphicsObject.ticked_posCnt pf 160 h, Config.lineWidth, Nat.add_mod_right, Nat.mod_eq_of_lt h]
  · obtain ⟨hhor, hver⟩ :=
      Chip.beam_of_beamClock hs (State.colorClocks_horCnt_lt hs 228) (State.colorClocks_beamClock 228 s)
    exact ⟨hhor, hver, fun o ho =>
      Chip.posCnt_of_linePlace hhor (State.colorClocks_posCnt_lt ho 228) ho (State.colorClocks_linePlace hs o 228)⟩

/-! ## The Player's lookup -/

/-- The bit index of a countdown inside its span is one of the eight bits (40 R114). -/
theorem GraphicsObject.spanIndex_le {o : GraphicsObject} (hpos : 1 ≤ o.widthCnt) (hle : o.widthCnt ≤ o.width) :
    8 * (o.widthCnt - 1) / o.width ≤ 7 := by
  have : 8 * (o.widthCnt - 1) / o.width < 8 := Nat.div_lt_of_lt_mul (by omega)
  omega

/-- The variant tag alone selects the Player's lookup (10 R20). -/
theorem colorLookup_player (pf : Playfield) {o : GraphicsObject} (h : o.variant = .player) :
    colorLookup pf o = o.playerColor := by
  simp only [colorLookup, h]

/-- Settles O22: the index is in bounds inside the span, and the lookup of a player record is the Player's. -/
theorem playerLookupFollowsTheCountdown : Obligations.PlayerLookupFollowsTheCountdown := by
  intro pf o hplayer hpos hle
  exact ⟨o.spanIndex_le hpos hle, colorLookup_player pf hplayer⟩

end Sys2Proof.Machine
end

section
/-! SUPPORT. The statement on the playfield's lookup (spec/41_playfield.md R141, R142). -/

namespace Sys2Proof.Machine

/-- The twenty dots of the first half of a line in their order on the screen, the table of 41 R142. -/
def Playfield.dots (pf : Playfield) : List Bool :=
  ([4, 5, 6, 7].map fun b => pf.reg0.getLsbD b) ++ ([7, 6, 5, 4, 3, 2, 1, 0].map fun b => pf.reg1.getLsbD b) ++
    ([0, 1, 2, 3, 4, 5, 6, 7].map fun b => pf.reg2.getLsbD b)

/-- The bit tested for a dot of the line is its entry of the table: the twenty rows of 41 R142. -/
theorem pfBit_eq_dots (pf : Playfield) {j : Nat} (h : j < 20) : pfBit pf j = pf.dots.getD j false := by
  interval_cases j <;> rfl

/-- The dot of a position, by the half of the line first. -/
theorem pfDot_eq (reflected : Bool) (pos : Nat) :
    pfDot reflected pos =
      if pos / 4 < 20 then pos / 4 else if reflected then 19 - (pos / 4 - 20) else pos / 4 - 20 := by
  simp only [pfDot, ← Nat.not_lt, ite_not]

/-- Repeated or mirrored, every position of the line falls on one of the twenty dots. -/
theorem pfDot_lt (reflected : Bool) {pos : Nat} (h : pos < Config.lineWidth) : pfDot reflected pos < 20 := by
  rw [Config.lineWidth] at h
  rw [pfDot_eq]
  split_ifs <;> omega

/-- The variant tag alone selects the Playfield's lookup (10 R20), which reads the record itself. -/
theorem colorLookup_playfield {pf : Playfield} (h : pf.variant = .playfield) :
    colorLookup pf pf.toGraphicsObject = playfieldColor pf := by
  simp only [colorLookup, h]

/-- Settles O25: the lookup is the Playfield's, its dot is one of the twenty, and the bit of a dot is the table's. -/
theorem playfieldLookupReadsTheDots : Obligations.PlayfieldLookupReadsTheDots := by
  intro pf hvariant hpos
  rw [colorLookup_playfield hvariant, playfieldColor, pfBit_eq_dots pf (pfDot_lt pf.reflected hpos), pfDot_eq]
  simp only [pfLitColor, apply_ite some]
  rfl

end Sys2Proof.Machine
end

section
/-! SUPPORT. The statement on the beam, the pending flag and the resume strobe of CLK (spec/42_scan_timing.md R151 to
R153). -/

namespace Sys2Proof.Machine

/-- The meaning of CLK: one colour clock, from every state (42 R150). -/
theorem exec_clk (s : State) : exec .clk s = .next s.colorClock := rfl

/-! ## When the strobe fires -/

/-- The condition of the resume strobe (42 R153). -/
theorem Chip.resumes_iff (c : Chip) :
    c.resumes = true ↔ c.horCnt = Config.wsyncResumeHpos ∧ c.wsyncNextLine = true := by
  simp [Chip.resumes]

/-- An advance that wraps leaves the counter at 0, so one that reaches the strobe's position arms nothing: the strobe
answers to a flag that was set before the clock. -/
theorem Chip.advance_wsyncNextLine_of_resumeHpos {c : Chip} (h : c.advance.horCnt = Config.wsyncResumeHpos) :
    c.advance.wsyncNextLine = c.wsyncNextLine := by
  have hwrap : c.horCnt + 1 ≠ Config.lineTotal := by
    intro hw
    rw [Chip.advance_horCnt, if_pos hw] at h
    exact absurd h (by decide)
  simp [Chip.advance_wsyncNextLine, hwrap]

theorem Chip.advance_resumes_iff (c : Chip) :
    c.advance.resumes = true ↔ c.advance.horCnt = Config.wsyncResumeHpos ∧ c.wsyncNextLine = true := by
  rw [Chip.resumes_iff, and_congr_right fun h => by rw [Chip.advance_wsyncNextLine_of_resumeHpos h]]

/-! ## What a colour clock does to the flag, the level and the Resume events -/

/-- The advance does not write the level. -/
@[simp] theorem Chip.advance_halt (c : Chip) : c.advance.halt = c.halt := by
  rw [Chip.advance_eq]

/-- A strobe clears the flag that the advance left. -/
theorem State.colorClock_wsyncNextLine (s : State) :
    s.colorClock.chip.wsyncNextLine = if s.chip.advance.resumes then false else s.chip.advance.wsyncNextLine := by
  have hvideo : s.colorClock.chip.wsyncNextLine = s.chip.strobed.wsyncNextLine := by
    rw [State.colorClock_chip]; split <;> simp
  rw [hvideo, Chip.strobed, apply_ite Chip.wsyncNextLine]

/-- A strobe clears the level, and no other clock writes it. -/
theorem State.colorClock_halt (s : State) :
    s.colorClock.chip.halt = if s.chip.advance.resumes then false else s.chip.halt := by
  have hvideo : s.colorClock.chip.halt = s.chip.strobed.halt := by
    rw [State.colorClock_chip]; split <;> simp
  rw [hvideo, Chip.strobed, apply_ite Chip.halt, Chip.advance_halt]

/-- A strobe puts out the one Resume of its clock; a pixel is none. -/
theorem State.colorClock_count_resume (s : State) :
    s.colorClock.outputs.count .resume =
      s.outputs.count .resume + if s.chip.advance.resumes then 1 else 0 := by
  rw [State.colorClock_outputs, List.count_append, List.count_append, Nat.add_comm]
  congr 1
  split <;> split <;> simp

/-- Settles O14: the beam is the advance's, and the strobe's condition, read on the new counter and the old flag, tells
its two cases apart. -/
theorem clkAdvancesTheBeamAndReleasesTheCpu : Obligations.ClkAdvancesTheBeamAndReleasesTheCpu := by
  intro s
  have hstrobe : s.chip.advance.resumes = true ↔ s.colorClock.chip.horCnt = 6 ∧ s.chip.wsyncNextLine = true := by
    rw [State.colorClock_horCnt]; exact s.chip.advance_resumes_iff
  refine ⟨_, exec_clk s, s.colorClock_horCnt.trans s.chip.advance_horCnt,
    s.colorClock_verCnt.trans s.chip.advance_verCnt, ?_⟩
  rw [State.colorClock_wsyncNextLine, State.colorClock_halt, State.colorClock_count_resume]
  simp only [← hstrobe]
  split
  · exact ⟨rfl, rfl, rfl⟩
  · exact ⟨s.chip.advance_wsyncNextLine, rfl, rfl⟩

end Sys2Proof.Machine
end

section
/-! SUPPORT. The collision matrix under each event (spec/43_collision.md R180 to R182): a colour clock can only set
latches, CXCLR and INIT clear all of them, and no other event writes the matrix. -/

namespace Sys2Proof.Machine

/-! ## The matrix over one colour clock -/

/-- The collision update, latch by latch (43 R181). -/
@[simp] theorem Collisions.update_get (cx : Collisions) (c : Colors) (l : Latch) :
    (cx.update c).get l = cx.latched c l := by
  cases l <;> rfl

theorem Collisions.latched_of_get {cx : Collisions} {l : Latch} (h : cx.get l = true) (c : Colors) :
    cx.latched c l = true := by
  simp [Collisions.latched, h]

/-- Neither the advance nor the resume strobe writes the matrix. -/
@[simp] theorem Chip.strobed_cx (c : Chip) : c.strobed.cx = c.cx := by
  rw [Chip.strobed_eq]

/-- The matrix is updated, with the colours of this clock's ticks, where the new counter is visible (42 R154, R155). -/
theorem State.colorClock_cx (s : State) :
    s.colorClock.chip.cx =
      if Config.lineStart ≤ s.chip.advance.horCnt then s.chip.cx.update s.chip.strobed.colors else s.chip.cx := by
  rw [State.colorClock_chip, apply_ite Chip.cx, Chip.rasterized_cx, Chip.strobed_cx]

/-- A colour clock clears no latch. -/
theorem State.colorClock_cx_get {s : State} {l : Latch} (h : s.chip.cx.get l = true) :
    s.colorClock.chip.cx.get l = true := by
  rw [State.colorClock_cx]
  split
  · rw [Collisions.update_get]; exact Collisions.latched_of_get h _
  · exact h

/-! ## The matrix over the other events -/

/-- The meaning of CXCLR (45 R238). -/
theorem exec_cxclr (v : Byte) (s : State) :
    exec (.cxclr v) s = .next (s.updChip fun c => { c with cx := Collisions.clear }) := rfl

/-- CXCLR and INIT leave the cleared matrix, whatever the old one (43 R182). -/
theorem exec_cx_of_clearing {i : Instr} {s t : State} (hi : (∃ v, i = .cxclr v) ∨ i = .init)
    (h : exec i s = .next t) : t.chip.cx = Collisions.clear := by
  obtain ⟨v, rfl⟩ | rfl := hi
  · rw [exec_cxclr] at h; cases h; rfl
  · rw [exec_init] at h; cases h; rfl

/-- The three branches of VSYNC write timing fields only (42 R160). -/
theorem exec_vsync_cx {v : Byte} {s t : State} (h : exec (.vsync v) s = .next t) : t.chip.cx = s.chip.cx := by
  simp only [exec, execVsync, Host.Outcome.next.injEq] at h
  subst h
  split
  · split
    · rfl
    · rw [State.frameBoundary_chip]
  · rfl

/-- CLK, CXCLR and INIT are the only events that write the matrix. -/
theorem exec_cx_of_ne {i : Instr} {s t : State} (hclk : i ≠ .clk) (hclear : ¬ ((∃ v, i = .cxclr v) ∨ i = .init))
    (h : exec i s = .next t) : t.chip.cx = s.chip.cx := by
  cases i with
  | clk => exact absurd rfl hclk
  | cxclr v => exact absurd (.inl ⟨v, rfl⟩) hclear
  | init => exact absurd (.inr rfl) hclear
  | vsync v => exact exec_vsync_cx h
  -- Every other event completes without a case distinction, in a state with the same matrix.
  | _ => cases h; rfl

/-- Settles O10: the two clearing events leave the cleared matrix, a colour clock only sets latches, and over the rest
the matrix is the same. -/
theorem latchesAreClearedOnlyInBulk : Obligations.LatchesAreClearedOnlyInBulk := by
  intro i s t h
  refine ⟨fun hclear l => ?_, fun hclear l hl => ?_⟩
  · rw [exec_cx_of_clearing hclear h, Collisions.clear_get]
  · by_cases hclk : i = .clk
    · subst hclk
      rw [exec_clk] at h
      cases h
      exact State.colorClock_cx_get hl
    · rw [exec_cx_of_ne hclk hclear h, hl]

end Sys2Proof.Machine
end

section
/-! SUPPORT. The statement on the compositor's two orders (spec/44_compositor.md R190 to R192). -/

namespace Sys2Proof.Machine

/-- The running output with the priority flag set (44 R191): the outermost candidate is the last of the order. -/
theorem composite_of_priority (c : Colors) (bg : Byte) :
    composite c true bg = c.bl.getD (c.pf.getD (c.m0.getD (c.p0.getD (c.m1.getD (c.p1.getD bg))))) := rfl

/-- The running output with the priority flag clear (44 R192). -/
theorem composite_of_no_priority (c : Colors) (bg : Byte) :
    composite c false bg = c.m0.getD (c.p0.getD (c.m1.getD (c.p1.getD (c.bl.getD (c.pf.getD bg))))) := rfl

/-- Settles O28: a candidate that overwrites the running output is one tried before all that came earlier in the order
(`Option.getD_or`). -/
theorem compositorPicksTheLastOfItsOrder : Obligations.CompositorPicksTheLastOfItsOrder := by
  intro c bg
  constructor
  · rw [composite_of_priority]
    simp only [Option.orElse_eq_orElse, Option.orElse_eq_or, Option.getD_or]
  · rw [composite_of_no_priority]
    simp only [Option.orElse_eq_orElse, Option.orElse_eq_or, Option.getD_or]

end Sys2Proof.Machine
end

section
/-! SUPPORT. The reserved bytes (spec/45_register_writes.md R234, R235): replacing both commutes with every event that
writes neither, because no operation of the block reads them. -/

namespace Sys2Proof.Machine

/-! ## The two bytes replaced -/

/-- The block with other reserved bytes. -/
def Chip.withReserved (a b : Byte) (c : Chip) : Chip := { c with resmp0 := a, resmp1 := b }

/-- The machine with other reserved bytes. -/
def State.withReserved (a b : Byte) (s : State) : State := s.updChip (Chip.withReserved a b)

/-! ## One colour clock -/

theorem Chip.armResume_withReserved (a b : Byte) (c : Chip) :
    (c.withReserved a b).armResume = c.armResume.withReserved a b := by
  rw [Chip.armResume, Chip.armResume, apply_ite (Chip.withReserved a b)]; rfl

theorem Chip.advance_withReserved (a b : Byte) (c : Chip) :
    (c.withReserved a b).advance = c.advance.withReserved a b := by
  rw [Chip.advance, Chip.advance, apply_ite (Chip.withReserved a b), ← Chip.armResume_withReserved]; rfl

theorem State.resumeStrobe_withReserved (a b : Byte) (s : State) :
    (s.withReserved a b).resumeStrobe = s.resumeStrobe.withReserved a b := by
  rw [State.resumeStrobe, State.resumeStrobe, apply_ite (State.withReserved a b)]; rfl

theorem State.forwardPixel_withReserved (out a b : Byte) (s : State) :
    (s.withReserved a b).forwardPixel out = (s.forwardPixel out).withReserved a b := by
  rw [State.forwardPixel, State.forwardPixel, apply_ite (State.withReserved a b)]; rfl

/-- Neither the ticks nor the composition of a pixel read the bytes. -/
theorem State.video_withReserved (a b : Byte) (s : State) :
    (s.withReserved a b).video = s.video.withReserved a b :=
  State.forwardPixel_withReserved s.chip.pixelColor a b (s.updChip Chip.rasterized)

/-- The two stages before the video work. -/
theorem State.strobed_withReserved (a b : Byte) (s : State) :
    ((s.withReserved a b).updChip Chip.advance).resumeStrobe =
      (s.updChip Chip.advance).resumeStrobe.withReserved a b := by
  have hadvance : (s.withReserved a b).updChip Chip.advance = (s.updChip Chip.advance).withReserved a b :=
    congrArg (fun c => { s with chip := c }) (s.chip.advance_withReserved a b)
  rw [hadvance, State.resumeStrobe_withReserved]

theorem State.colorClock_withReserved (a b : Byte) (s : State) :
    (s.withReserved a b).colorClock = s.colorClock.withReserved a b := by
  simp only [State.colorClock, State.strobed_withReserved, State.video_withReserved,
    apply_ite (State.withReserved a b)]
  rfl

/-! ## The events -/

theorem State.frameBoundary_withReserved (a b : Byte) (s : State) :
    (s.withReserved a b).frameBoundary = s.frameBoundary.withReserved a b := by
  simp only [State.frameBoundary, apply_ite (State.withReserved a b)]; rfl

theorem exec_vsync_withReserved (v a b : Byte) {s t : State} (h : exec (.vsync v) s = .next t) :
    exec (.vsync v) (s.withReserved a b) = .next (t.withReserved a b) := by
  cases h
  simp only [exec, execVsync, State.frameBoundary_withReserved, apply_ite (State.withReserved a b)]
  rfl

/-- Every event that writes neither byte does the same whatever they hold. -/
theorem exec_withReserved {i : Instr} {s t : State} (a b : Byte) (hinit : i ≠ .init) (h0 : ∀ v, i ≠ .resmp0 v)
    (h1 : ∀ v, i ≠ .resmp1 v) (h : exec i s = .next t) :
    exec i (s.withReserved a b) = .next (t.withReserved a b) := by
  cases i with
  | init => exact absurd rfl hinit
  | resmp0 v => exact absurd rfl (h0 v)
  | resmp1 v => exact absurd rfl (h1 v)
  | clk =>
    rw [exec_clk] at h ⊢
    cases h
    rw [State.colorClock_withReserved]
  | vsync v => exact exec_vsync_withReserved v a b h
  -- Every other event completes without a case distinction, on fields beside the two bytes.
  | _ => cases h; rfl

/-- Settles O44: the two stores by their meaning, every other event by `exec_withReserved`. -/
theorem reservedBytesAreStoreOnly : Obligations.ReservedBytesAreStoreOnly :=
  ⟨fun _ _ => ⟨rfl, rfl⟩, fun _ _ _ a b hinit h0 h1 h => exec_withReserved a b hinit h0 h1 h⟩

end Sys2Proof.Machine
end

section
/-! SUPPORT. The statement on the pattern writes (spec/45_register_writes.md R213 to R215; spec/41_playfield.md R142). -/

namespace Sys2Proof.Machine

/-- The high nibble of a byte tells each of its upper four bits. -/
theorem getLsbD_of_highNibble_eq {a b : Byte} (h : a.toNat / 16 = b.toNat / 16) (j : Nat) :
    a.getLsbD (4 + j) = b.getLsbD (4 + j) := by
  have hbit (x : Byte) : x.getLsbD (4 + j) = (x.toNat / 2 ^ 4).testBit j := by
    rw [Nat.testBit_div_two_pow, Nat.add_comm, BitVec.getLsbD]
  rw [hbit, hbit]
  exact congrArg (·.testBit j) h

/-- Of register 0 a dot reads the high nibble only (41 R142). -/
theorem pfBit_reg0_congr (pf : Playfield) {a b : Byte} (h : a.toNat / 16 = b.toNat / 16) (j : Nat) :
    pfBit { pf with reg0 := a } j = pfBit { pf with reg0 := b } j := by
  simp only [pfBit, getLsbD_of_highNibble_eq h]

/-- The dot index and the colour of a lit dot do not read the pattern. -/
theorem playfieldColor_reg0_congr (pf : Playfield) {a b : Byte} (h : a.toNat / 16 = b.toNat / 16) :
    playfieldColor { pf with reg0 := a } = playfieldColor { pf with reg0 := b } := by
  simp only [playfieldColor, pfBit_reg0_congr pf h, pfLitColor]

/-- Only the Playfield's lookup reads the pattern registers (10 R20). -/
theorem colorLookup_reg0_congr (pf : Playfield) (o : GraphicsObject) {a b : Byte}
    (h : a.toNat / 16 = b.toNat / 16) :
    colorLookup { pf with reg0 := a } o = colorLookup { pf with reg0 := b } o := by
  unfold colorLookup
  cases o.variant with
  | player => rfl
  | missile => rfl
  | ball => rfl
  | playfield => exact playfieldColor_reg0_congr { pf with toGraphicsObject := o } h

/-- Settles O38: the three stores by their meaning, the lookups by `colorLookup_reg0_congr`. -/
theorem patternWritesStoreWholeBytes : Obligations.PatternWritesStoreWholeBytes :=
  ⟨fun _ _ => ⟨rfl, rfl, rfl⟩, fun pf o _ _ h => colorLookup_reg0_congr pf o h⟩

end Sys2Proof.Machine
end

section
/-! SUPPORT. The statements on the motion registers, HMOVE and HMCLR (spec/45_register_writes.md R226 to R230, R236,
R237; spec/40_graphics_object.md R123). -/

namespace Sys2Proof.Machine

/-! ## The motion of one record -/

/-- A motion writes the position and nothing else. -/
theorem GraphicsObject.move_eq (o : GraphicsObject) : o.move = { o with posCnt := o.move.posCnt } := by
  unfold GraphicsObject.move; dsimp only; split <;> rfl

/-- Its two branches are one sum with the nibble read in two's complement (40 R123). -/
theorem GraphicsObject.move_posCnt_signed (o : GraphicsObject) :
    o.move.posCnt = (((o.posCnt : Int) + (motionNibble o.offset).toInt) % 160).toNat := by
  have hnibble := (motionNibble o.offset).isLt
  rw [GraphicsObject.move_posCnt, BitVec.toInt_eq_toNat_cond, Config.lineWidth]
  split
  · rw [if_pos (by omega)]; omega
  · rw [if_neg (by omega)]; omega

theorem GraphicsObject.move_signed (o : GraphicsObject) :
    o.move = { o with posCnt := (((o.posCnt : Int) + (motionNibble o.offset).toInt) % 160).toNat } := by
  rw [GraphicsObject.move_eq, GraphicsObject.move_posCnt_signed]

/-- A cleared motion register moves nothing from a position in range. -/
theorem GraphicsObject.move_of_offset_zero {o : GraphicsObject} (hoffset : o.offset = 0x00)
    (hpos : o.posCnt < Config.lineWidth) : o.move = o := by
  have hstay : o.move.posCnt = o.posCnt := by
    have hzero : (motionNibble 0x00).toNat = 0 := rfl
    rw [GraphicsObject.move_posCnt, hoffset, hzero, if_pos (by decide), Nat.add_zero, Nat.mod_eq_of_lt hpos]
  rw [GraphicsObject.move_eq, hstay]

/-! ## The five movable records -/

theorem Chip.modMovables_obj {o : ObjId} (h : o ≠ .PF) (c : Chip) (f : GraphicsObject → GraphicsObject) :
    (c.modMovables f).obj o = f (c.obj o) := by
  cases o with
  | PF => exact absurd rfl h
  | _ => rfl

theorem Chip.modMovables_eq_self {c : Chip} {f : GraphicsObject → GraphicsObject}
    (h : ∀ o : ObjId, o ≠ .PF → f (c.obj o) = c.obj o) : c.modMovables f = c := by
  have hp0 : f c.p0 = c.p0 := h .P0 (by decide)
  have hp1 : f c.p1 = c.p1 := h .P1 (by decide)
  have hm0 : f c.m0 = c.m0 := h .M0 (by decide)
  have hm1 : f c.m1 = c.m1 := h .M1 (by decide)
  have hbl : f c.bl = c.bl := h .BL (by decide)
  rw [Chip.modMovables, hp0, hp1, hm0, hm1, hbl]

/-- The meaning of HMOVE (45 R236). -/
theorem exec_hmove (v : Byte) (s : State) :
    exec (.hmove v) s = .next (s.updChip (Chip.modMovables GraphicsObject.move)) := rfl

/-- The meaning of HMCLR (45 R237). -/
theorem exec_hmclr (v : Byte) (s : State) :
    exec (.hmclr v) s = .next (s.updChip (Chip.modMovables (GraphicsObject.setOffset 0x00))) := rfl

/-- With the five motion registers cleared and the positions in range there is nothing to move. -/
theorem Chip.move_of_cleared {c : Chip} (hpos : ∀ o : ObjId, (c.obj o).posCnt < Config.lineWidth) :
    (c.modMovables (GraphicsObject.setOffset 0x00)).modMovables GraphicsObject.move =
      c.modMovables (GraphicsObject.setOffset 0x00) := by
  refine Chip.modMovables_eq_self fun o ho => ?_
  rw [Chip.modMovables_obj ho]
  exact GraphicsObject.move_of_offset_zero rfl (hpos o)

/-! ## The statements -/

/-- Settles O42: each write is `setOffset` on its one record. -/
theorem motionRegisterWritesStoreTheByte : Obligations.MotionRegisterWritesStoreTheByte :=
  fun _ _ => ⟨rfl, rfl, rfl, rfl, rfl⟩

/-- Settles O45: the motion of a record is the signed one, on each of the five. -/
theorem motionApplyMovesBySignedNibbles : Obligations.MotionApplyMovesBySignedNibbles := by
  intro v s moved
  have hmoved : GraphicsObject.move = moved := funext GraphicsObject.move_signed
  rw [exec_hmove, hmoved]
  rfl

/-- Settles O46: HMCLR is `setOffset 0` on the five records, after which their motion is the identity. -/
theorem motionClearStopsMotion : Obligations.MotionClearStopsMotion := by
  refine ⟨exec_hmclr, fun v w s hpos => ?_⟩
  rw [execAll_cons_next (exec_hmclr v s), execAll_cons_next (exec_hmove w _), exec_hmclr]
  exact congrArg (fun c => Host.Outcome.next { s with chip := c }) (Chip.move_of_cleared hpos)

end Sys2Proof.Machine
end

section
/-! SUPPORT. The statements on the two colour writes beside the players' (spec/45_register_writes.md R208, R209) and on
CXCLR (R238). -/

namespace Sys2Proof.Machine

/-- Settles O35: COLUPF is `setColor` on two records, COLUBK one field of the block. -/
theorem playfieldAndBackgroundColourWrites : Obligations.PlayfieldAndBackgroundColourWrites :=
  fun _ _ => ⟨rfl, rfl⟩

/-- Settles O47: CXCLR leaves the cleared matrix, whose latches all read 0. -/
theorem collisionClearWrite : Obligations.CollisionClearWrite :=
  fun v s => ⟨_, exec_cxclr v s, Collisions.clear_get, rfl⟩

end Sys2Proof.Machine
end

section
/-! SUPPORT. The decoder and the encoder are inverse up to the ignored bits (spec/30_encoding.md R90 to R95), and
a decoded word lies in its event's row of the opcode table. -/

namespace Sys2Proof

/-! ## Encoding what a map decoded -/

/-- A decoded write is well-formed and encodes to the write it was decoded from: row by row of the write map, and by
`decodeWrite_unmatched` outside it. -/
theorem decodeWrite_roundTrip (a v : Byte) :
    (decodeWrite a v).wellFormed = true ∧ encode (decodeWrite a v) = writeWord a v := by
  by_cases h : a ∈ writeAddresses
  · fin_cases h <;> exact ⟨rfl, rfl⟩
  · have hcontains : writeAddresses.contains a = false := by simpa using h
    rw [decodeWrite_unmatched a v hcontains]
    exact ⟨by rw [Instr.wellFormed, hcontains]; rfl, rfl⟩

theorem decodeRead_roundTrip (a : Byte) :
    (decodeRead a).wellFormed = true ∧ encode (decodeRead a) = readWord a := by
  by_cases h : a ∈ readAddresses
  · fin_cases h <;> exact ⟨rfl, rfl⟩
  · have hcontains : readAddresses.contains a = false := by simpa using h
    rw [decodeRead_unmatched a hcontains]
    exact ⟨by rw [Instr.wellFormed, hcontains]; rfl, rfl⟩

/-! ## The branches of the decoder -/

theorem decode_of_write {w : EventWord} (hkind : w.toNat / 2 ^ 17 = 0) (hrw : w.toNat / 2 ^ 16 % 2 = 1) :
    decode w = .ok (decodeWrite (addrField w) (valField w)) := by
  have hkindField : (kindField w).toNat = 0 := (kindField_toNat w).trans hkind
  have hrwField : rwField w = true := (rwField_eq w).trans (decide_eq_true hrw)
  simp only [decode, hkindField, hrwField, if_true]

theorem decode_of_read {w : EventWord} (hkind : w.toNat / 2 ^ 17 = 0) (hrw : w.toNat / 2 ^ 16 % 2 ≠ 1) :
    decode w = .ok (decodeRead (addrField w)) := by
  have hkindField : (kindField w).toNat = 0 := (kindField_toNat w).trans hkind
  have hrwField : rwField w = false := (rwField_eq w).trans (decide_eq_false hrw)
  simp only [decode, hkindField, hrwField, Bool.false_eq_true, if_false]

theorem decode_of_clk {w : EventWord} (hkind : w.toNat / 2 ^ 17 = 1) : decode w = .ok .clk := by
  simp only [decode, (kindField_toNat w).trans hkind]

theorem decode_of_init {w : EventWord} (hkind : w.toNat / 2 ^ 17 = 2) : decode w = .ok .init := by
  simp only [decode, (kindField_toNat w).trans hkind]

theorem decode_of_invalid {w : EventWord} (hkind : w.toNat / 2 ^ 17 = 3) : decode w = .error .invalidKind := by
  simp only [decode, (kindField_toNat w).trans hkind]

/-- A kind has four values. -/
theorem kind_cases (w : EventWord) :
    w.toNat / 2 ^ 17 = 0 ∨ w.toNat / 2 ^ 17 = 1 ∨ w.toNat / 2 ^ 17 = 2 ∨ w.toNat / 2 ^ 17 = 3 := by
  have := w.isLt; omega

/-- The four ways in which a word spells an event. -/
theorem decode_cases {w : EventWord} {i : Instr} (h : decode w = .ok i) :
    (w.toNat / 2 ^ 17 = 0 ∧ w.toNat / 2 ^ 16 % 2 = 1 ∧ i = decodeWrite (addrField w) (valField w)) ∨
      (w.toNat / 2 ^ 17 = 0 ∧ w.toNat / 2 ^ 16 % 2 ≠ 1 ∧ i = decodeRead (addrField w)) ∨
      (w.toNat / 2 ^ 17 = 1 ∧ i = .clk) ∨ (w.toNat / 2 ^ 17 = 2 ∧ i = .init) := by
  obtain hkind | hkind | hkind | hkind := kind_cases w
  · by_cases hrw : w.toNat / 2 ^ 16 % 2 = 1
    · rw [decode_of_write hkind hrw] at h; cases h
      exact .inl ⟨hkind, hrw, rfl⟩
    · rw [decode_of_read hkind hrw] at h; cases h
      exact .inr (.inl ⟨hkind, hrw, rfl⟩)
  · rw [decode_of_clk hkind] at h; cases h
    exact .inr (.inr (.inl ⟨hkind, rfl⟩))
  · rw [decode_of_init hkind] at h; cases h
    exact .inr (.inr (.inr ⟨hkind, rfl⟩))
  · rw [decode_of_invalid hkind] at h; cases h

/-! ## The round trips -/

/-- A write's word carries its own fields. -/
theorem writeWord_fields {w : EventWord} (hkind : w.toNat / 2 ^ 17 = 0) (hrw : w.toNat / 2 ^ 16 % 2 = 1) :
    writeWord (addrField w) (valField w) = w := by
  apply BitVec.eq_of_toNat_eq
  rw [writeWord_toNat, addrField_toNat, valField_toNat]; omega

/-- A read's canonical word is its own word without the ignored byte. -/
theorem readWord_fields {w : EventWord} (hkind : w.toNat / 2 ^ 17 = 0) (hrw : w.toNat / 2 ^ 16 % 2 ≠ 1) :
    readWord (addrField w) = BitVec.ofNat 19 (w.toNat / 256 * 256) := by
  rw [readWord, addrField_toNat]
  congr 1
  omega

/-- Settles O3: the four forms of the canonical word, of which a write's and a read's are decoded by their maps. -/
theorem decodeOfEncodeIsTheEvent : Obligations.DecodeOfEncodeIsTheEvent := by
  intro i hwf
  cases i with
  | wnop a v =>
    exact (decode_writeWord a v).trans (congrArg _ (decodeWrite_unmatched a v (by simpa [Instr.wellFormed] using hwf)))
  | rzero a =>
    exact (decode_readWord a).trans (congrArg _ (decodeRead_unmatched a (by simpa [Instr.wellFormed] using hwf)))
  | clk | init => rfl
  | cxm0p | cxm1p | cxp0fb | cxp1fb | cxm0fb | cxm1fb | cxblpf | cxppmm => exact decode_readWord _
  -- Every other event is a write of a matched address.
  | _ => exact decode_writeWord _ _

/-- Settles O4: in each way of decoding, the round trip of its map and the fields of the word. -/
theorem encodeOfDecodeIsTheCanonicalWord : Obligations.EncodeOfDecodeIsTheCanonicalWord := by
  intro w i h
  obtain ⟨hkind, hrw, rfl⟩ | ⟨hkind, hrw, rfl⟩ | ⟨hkind, rfl⟩ | ⟨hkind, rfl⟩ := decode_cases h
  · obtain ⟨hwf, hword⟩ := decodeWrite_roundTrip (addrField w) (valField w)
    rw [if_pos hkind, if_pos hrw, hword]
    exact ⟨hwf, writeWord_fields hkind hrw⟩
  · obtain ⟨hwf, hword⟩ := decodeRead_roundTrip (addrField w)
    rw [if_pos hkind, if_neg hrw, hword]
    exact ⟨hwf, readWord_fields hkind hrw⟩
  · rw [hkind]; exact ⟨rfl, rfl⟩
  · rw [hkind]; exact ⟨rfl, rfl⟩

theorem decode_wellFormed {w : EventWord} {i : Instr} (h : decode w = .ok i) : i.wellFormed = true :=
  (encodeOfDecodeIsTheCanonicalWord w i h).1

/-! ## The opcode table -/

/-- The long mask keeps the word but for its low byte. -/
theorem and_longMask (w : EventWord) : w &&& 0x7FF00 = BitVec.ofNat 19 (w.toNat / 256 * 256) :=
  and_high w 8 (by decide)

theorem and_kindMask (w : EventWord) : w &&& 0x60000 = BitVec.ofNat 19 (w.toNat / 2 ^ 17 * 2 ^ 17) :=
  and_high w 17 (by decide)

/-- Two words are equal under the long mask exactly where they agree above the low byte. -/
theorem and_longMask_inj {w x : EventWord} (h : w &&& 0x7FF00 = x &&& 0x7FF00) : w.toNat / 256 = x.toNat / 256 := by
  have := w.isLt
  have := x.isLt
  rw [and_longMask, and_longMask] at h
  have hnat := congrArg BitVec.toNat h
  rw [BitVec.toNat_ofNat, BitVec.toNat_ofNat] at hnat
  omega

/-- The row of a decoded write does not depend on the byte written. -/
theorem decodeWrite_tableRow_congr (a v v' : Byte) : (decodeWrite a v).tableRow = (decodeWrite a v').tableRow := by
  unfold decodeWrite; split <;> rfl

/-- No row tells apart two words that agree above the low byte. -/
theorem decode_tableRow_congr {w x : EventWord} {i j : Instr} (hwx : w.toNat / 256 = x.toNat / 256)
    (hi : decode w = .ok i) (hj : decode x = .ok j) : i.tableRow = j.tableRow := by
  have haddr : addrField w = addrField x := BitVec.eq_of_toNat_eq (by rw [addrField_toNat, addrField_toNat, hwx])
  have hkind : x.toNat / 2 ^ 17 = w.toNat / 2 ^ 17 := by omega
  have hrw : x.toNat / 2 ^ 16 = w.toNat / 2 ^ 16 := by omega
  obtain ⟨hk, hr, rfl⟩ | ⟨hk, hr, rfl⟩ | ⟨hk, rfl⟩ | ⟨hk, rfl⟩ := decode_cases hi
  · rw [decode_of_write (hkind ▸ hk) (hrw ▸ hr)] at hj; cases hj
    rw [haddr]; exact decodeWrite_tableRow_congr _ _ _
  · rw [decode_of_read (hkind ▸ hk) (hrw ▸ hr)] at hj; cases hj
    rw [haddr]
  · rw [decode_of_clk (hkind ▸ hk)] at hj; cases hj; rfl
  · rw [decode_of_init (hkind ▸ hk)] at hj; cases hj; rfl

/-- The canonical word of an event lies in the event's row. -/
theorem encode_tableRow (i : Instr) : encode i &&& i.tableRow.2 = i.tableRow.1 := by
  cases i with
  | wnop a v => exact writeWord_kind a v
  | rzero a => exact readWord_kind a
  | clk | init => decide
  | cxm0p | cxm1p | cxp0fb | cxp1fb | cxm0fb | cxm1fb | cxblpf | cxppmm => exact readWord_row _
  -- Every other event is a write of a matched address.
  | _ => exact writeWord_row _ _

/-- Only the two unmatched forms and the two kinds without an address have a shorter mask. -/
theorem wellFormed_of_longMask {j : Instr} (h : j.tableRow.2 = 0x7FF00) : j.wellFormed = true := by
  cases j with
  | wnop | rzero => exact absurd h (by decide : (0x70000 : EventWord) ≠ 0x7FF00)
  | _ => rfl

/-- The three masks of the table. -/
theorem tableMask_cases (i : Instr) :
    i.tableRow.2 = 0x7FF00 ∨ i.tableRow.2 = 0x70000 ∨ i.tableRow.2 = 0x60000 := by
  cases i with
  | wnop | rzero => exact .inr (.inl rfl)
  | clk | init => exact .inr (.inr rfl)
  | _ => exact .inl rfl

/-- No mask of the table reaches into the low byte. -/
theorem longMask_and_tableMask (i : Instr) : 0x7FF00 &&& i.tableRow.2 = i.tableRow.2 := by
  obtain h | h | h := tableMask_cases i <;> rw [h] <;> rfl

/-- A decoded word lies in the row of its event: a write is its canonical word, a read agrees with it above the low
byte, the other two kinds are the kind field alone. -/
theorem decode_tableRow {w : EventWord} {i : Instr} (h : decode w = .ok i) :
    w &&& i.tableRow.2 = i.tableRow.1 := by
  have hword := (encodeOfDecodeIsTheCanonicalWord w i h).2
  have hrow := encode_tableRow i
  rw [hword] at hrow
  obtain ⟨hkind, hrw, -⟩ | ⟨hkind, hrw, -⟩ | ⟨hkind, rfl⟩ | ⟨hkind, rfl⟩ := decode_cases h
  · rwa [if_pos hkind, if_pos hrw] at hrow
  · rwa [if_pos hkind, if_neg hrw, ← and_longMask, BitVec.and_assoc, longMask_and_tableMask] at hrow
  · exact (and_kindMask w).trans (by rw [hkind]; rfl)
  · exact (and_kindMask w).trans (by rw [hkind]; rfl)

/-- Settles O5: a long row that the word matches holds the canonical word of its own event too, and two words in it
agree above the low byte, which decides the row. -/
theorem decodedWordMatchesItsTableRow : Obligations.DecodedWordMatchesItsTableRow := by
  intro w i h
  refine ⟨decode_tableRow h, fun j hmask hmatch => ?_⟩
  have hencode : decode (encode j) = .ok j := decodeOfEncodeIsTheEvent j (wellFormed_of_longMask hmask)
  have hsame : w &&& 0x7FF00 = encode j &&& 0x7FF00 := by rw [hmatch, ← encode_tableRow j, hmask]
  exact decode_tableRow_congr (and_longMask_inj hsame) h hencode

/-- Settles O6: the decoder evaluates on closed words. -/
theorem wordsOfTheSpecDecode : Obligations.WordsOfTheSpecDecode :=
  ⟨rfl, rfl, rfl, rfl, rfl, rfl, rfl, rfl, rfl, rfl, rfl, rfl⟩

end Sys2Proof
end

section
/-! SUPPORT. What a step does with the word in front of the queue (spec/20_memory.md R77), and the two unmatched accesses
(spec/45_register_writes.md R240, spec/46_register_reads.md R269). -/

namespace Sys2Proof.Machine

/-! ## One step -/

/-- Without an event a step answers the same state. -/
theorem step_of_idle {s : State} (h : s.inputs = []) : step s = .next s := by
  simp only [step, State.fetch, h]

/-- A step whose front word spells an event is that event's meaning as it arrives. -/
theorem step_of_decode {s : State} {e : BusEvent} {rest : List BusEvent} {i : Instr} (h : s.inputs = e :: rest)
    (hi : decode e.word = .ok i) : step s = exec i (s.arrive e rest) := by
  simp only [step, State.fetch, h, hi]

/-- A step whose front word spells none refuses it. -/
theorem step_of_invalid {s : State} {e : BusEvent} {rest : List BusEvent} (h : s.inputs = e :: rest)
    (hkind : e.word.toNat / 2 ^ 17 = 3) : step s = .refused (.invalidEventWord e.word) := by
  simp only [step, State.fetch, h, decode_of_invalid hkind]

/-- A word spells an event unless its kind is 11. -/
theorem decode_or_invalid (w : EventWord) : (∃ i, decode w = .ok i) ∨ w.toNat / 2 ^ 17 = 3 := by
  by_cases hkind : w.toNat / 2 ^ 17 = 3
  · exact .inr hkind
  · cases hdecode : decode w with
    | ok i => exact .inl ⟨i, rfl⟩
    | error e =>
      obtain h0 | h1 | h2 | h3 := kind_cases w
      · by_cases hrw : w.toNat / 2 ^ 16 % 2 = 1
        · rw [decode_of_write h0 hrw] at hdecode; cases hdecode
        · rw [decode_of_read h0 hrw] at hdecode; cases hdecode
      · rw [decode_of_clk h1] at hdecode; cases hdecode
      · rw [decode_of_init h2] at hdecode; cases hdecode
      · exact absurd h3 hkind

/-- The three things a step can be. -/
theorem step_cases (s : State) :
    (s.inputs = [] ∧ step s = .next s) ∨
      (∃ e rest i, s.inputs = e :: rest ∧ decode e.word = .ok i ∧ step s = exec i (s.arrive e rest)) ∨
      ∃ e rest, s.inputs = e :: rest ∧ e.word.toNat / 2 ^ 17 = 3 ∧
        step s = .refused (.invalidEventWord e.word) := by
  cases hinputs : s.inputs with
  | nil => exact .inl ⟨rfl, step_of_idle hinputs⟩
  | cons e rest =>
    obtain ⟨i, hi⟩ | hkind := decode_or_invalid e.word
    · exact .inr (.inl ⟨e, rest, i, rfl, hi, step_of_decode hinputs hi⟩)
    · exact .inr (.inr ⟨e, rest, rfl, hkind, step_of_invalid hinputs hkind⟩)

/-- Settles O1: the decoder gives well-formed events only, and a step fetches before it executes. -/
theorem stepAppliesTheDecodedEvent : Obligations.StepAppliesTheDecodedEvent :=
  fun _ _ _ _ h hi => ⟨decode_wellFormed hi, step_of_decode h hi⟩

/-- Settles O2: the step of an empty queue and that of a word of kind 11. -/
theorem noEventIdlesAndInvalidKindIsRefused : Obligations.NoEventIdlesAndInvalidKindIsRefused :=
  ⟨fun _ h => step_of_idle h, fun _ _ _ h hkind => step_of_invalid h hkind⟩

/-! ## The unmatched accesses -/

/-- The addresses between the matched writes (45 R240). -/
theorem writeAddresses_gaps : ∀ a : Byte,
    a.toNat = 0x01 ∨ (0x15 ≤ a.toNat ∧ a.toNat ≤ 0x1a) ∨ 0x2d ≤ a.toNat → writeAddresses.contains a = false := by
  decide

/-- The addresses above the matched reads (46 R269). -/
theorem readAddresses_gap : ∀ a : Byte, 8 ≤ a.toNat → readAddresses.contains a = false := by
  decide

/-- Settles O48: the word is the canonical write of an unmatched address, which decodes to WNOP. -/
theorem unmatchedWriteChangesNothing : Obligations.UnmatchedWriteChangesNothing := by
  refine ⟨fun a v s => rfl, fun s e rest a v h hword hgap => ?_⟩
  have hcanonical : e.word = writeWord a v := BitVec.eq_of_toNat_eq (hword.trans (writeWord_toNat a v).symm)
  have hdecode : decode e.word = .ok (.wnop a v) := by
    rw [hcanonical, decode_writeWord, decodeWrite_unmatched a v (writeAddresses_gaps a hgap)]
  exact step_of_decode h hdecode

/-- Settles O50: a word in the range is a read of an address from 8 on, which decodes to RZERO. -/
theorem unmatchedReadReturnsZero : Obligations.UnmatchedReadReturnsZero := by
  refine ⟨fun a s => rfl, fun s e rest h hlow hhigh => ?_⟩
  have haddr : 8 ≤ (addrField e.word).toNat := by rw [addrField_toNat]; omega
  have hdecode : decode e.word = .ok (.rzero (addrField e.word)) := by
    rw [decode_of_read (by omega) (by omega), decodeRead_unmatched _ (readAddresses_gap _ haddr)]
  exact step_of_decode h hdecode

end Sys2Proof.Machine
end

section
/-! SUPPORT. The fields of a written byte in numbers (spec/30_encoding.md R96), and the statements that give a register
write's, a read's and INIT's whole new state (spec/42_scan_timing.md R160 to R163; spec/45_register_writes.md;
spec/46_register_reads.md; spec/10_state.md section 8). -/

namespace Sys2Proof.Machine

/-! ## The fields of a byte -/

/-- One bit of a byte. -/
theorem getLsbD_eq_decide (v : Byte) (n : Nat) : v.getLsbD n = decide (v.toNat / 2 ^ n % 2 = 1) := by
  rw [BitVec.getLsbD, Nat.testBit_eq_decide_div_mod_eq]

theorem getLsbD_zero_eq_decide (v : Byte) : v.getLsbD 0 = decide (v.toNat % 2 = 1) := by
  rw [getLsbD_eq_decide, Nat.pow_zero, Nat.div_one]

theorem spanWidth_eq (v : Byte) : spanWidth v = 2 ^ (v.toNat / 16 % 4) := by
  rw [spanWidth, BitVec.extractLsb'_toNat, Nat.shiftRight_eq_div_pow, Nat.one_shiftLeft]

theorem nusizCode_toNat (v : Byte) : (nusizCode v).toNat = v.toNat % 8 := by
  rw [nusizCode, BitVec.extractLsb'_toNat, Nat.shiftRight_zero]

/-- The count/size table as a list of its eight rows (45 R203). -/
def nusizRows : List (List Nat × Nat) :=
  [([0], 8), ([0, 16], 8), ([0, 32], 8), ([0, 16, 32], 8), ([0, 64], 8), ([0], 16), ([0, 32, 64], 32), ([0], 32)]

theorem nusizTable_eq (code : BitVec 3) : nusizTable code = nusizRows.getD code.toNat ([], 0) := by
  revert code; decide

/-! ## The timing controller's writes -/

/-- The meaning of VSYNC, by the level and the edge (42 R160). -/
theorem exec_vsync (v : Byte) (s : State) :
    exec (.vsync v) s = .next
      (if syncLevel v then if s.chip.vsyncing then s else s.frameBoundary
        else s.updChip fun c => { c with vsyncing := false }) := rfl

/-- An accepted rising edge, whole. -/
theorem State.frameBoundary_eq (s : State) :
    s.frameBoundary =
      { s with
        chip := { s.chip with vsyncing := true, verCnt := 0, frameArmed := true }
        outputs := if s.chip.frameArmed then .framePresent :: s.outputs else s.outputs } := by
  unfold State.frameBoundary; dsimp only; split <;> rfl

/-- Settles O29: the level is bit 1 of the byte, and a rising edge is the frame boundary. -/
theorem vsyncIsEdgeDetected : Obligations.VsyncIsEdgeDetected := by
  intro v s
  rw [exec_vsync, syncLevel, getLsbD_eq_decide, State.frameBoundary_eq]
  simp only [decide_eq_true_eq]
  rfl

/-- Settles O30: one field of the block. -/
theorem wsyncSetsTheHaltLevelOnly : Obligations.WsyncSetsTheHaltLevelOnly :=
  fun _ _ => rfl

/-- Settles O31: one field of the block. -/
theorem rsyncResetsTheCounterOnly : Obligations.RsyncResetsTheCounterOnly :=
  fun _ _ => rfl

/-! ## Sizes and modes -/

/-- Settles O33: the table by its rows, the missile's width by its field. -/
theorem sizeWritesConfigureMissileAndPlayer : Obligations.SizeWritesConfigureMissileAndPlayer := by
  intro v s rows row mw size
  have hrow : nusizTable (nusizCode v) = row := by rw [nusizTable_eq, nusizCode_toNat]; rfl
  have hwidth : spanWidth v = mw := spanWidth_eq v
  have hconfigure (m p : ObjId) (c : Chip) :
      c.configureSize m p v = (c.modObj (size mw) m).modObj (size row.2) p := by
    rw [Chip.configureSize, hrow, hwidth]; rfl
  simp only [exec, execNusiz0, execNusiz1, State.updChip, hconfigure]
  exact ⟨rfl, rfl⟩

/-- Settles O36: the three mode bits and the ball's width by their fields. -/
theorem playfieldControlWrite : Obligations.PlayfieldControlWrite := by
  intro v s w
  have hwidth : spanWidth v = w := spanWidth_eq v
  simp only [exec, execCtrlpf, ctrlReflect, ctrlScore, ctrlPriority, getLsbD_zero_eq_decide,
    getLsbD_eq_decide v 1, getLsbD_eq_decide v 2, hwidth]
  rfl

/-- Settles O37: bit 3 of the byte. -/
theorem playerReflectionWrites : Obligations.PlayerReflectionWrites := by
  intro v s r
  have hbit : reflectBit v = r := getLsbD_eq_decide v 3
  simp only [exec, execRefp0, execRefp1, hbit]
  exact ⟨rfl, rfl⟩

/-- Settles O34: `setColor` on two records and one score half. -/
theorem playerColourWritesReachMissileAndScoreHalf : Obligations.PlayerColourWritesReachMissileAndScoreHalf :=
  fun _ _ => ⟨rfl, rfl⟩

/-! ## Positions, graphics and enables -/

/-- The position reset in the closed form of 70 R311. -/
theorem GraphicsObject.resetPos_eq (h cyc : Nat) (o : GraphicsObject) :
    o.resetPos h cyc =
      { o with posCnt := (((if h = 67 then 162 else 161) - 3 * (cyc : Int)) % 160).toNat } := by
  simp only [GraphicsObject.resetPos, resetPoint, resetCorrCond, Config.lineStart, Config.lineWidth, beq_iff_eq]
  congr 3
  split <;> omega

/-- Settles O39: the five writes are one operation on their records. -/
theorem positionResetPlacesTheObjectFromCyc : Obligations.PositionResetPlacesTheObjectFromCyc := by
  intro v s pos
  have hreset : GraphicsObject.resetPos s.chip.horCnt s.cpuCycles = fun o => { o with posCnt := pos } :=
    funext (GraphicsObject.resetPos_eq s.chip.horCnt s.cpuCycles)
  simp only [exec, execResp0, execResp1, execResm0, execResm1, execResbl, State.positionReset, State.updChip, hreset]
  exact ⟨rfl, rfl, rfl, rfl, rfl⟩

/-- Settles O40: `setGraphics` on one record. -/
theorem graphicsWritesArmTheDelayLatch : Obligations.GraphicsWritesArmTheDelayLatch :=
  fun _ _ => ⟨rfl, rfl⟩

/-- An enable write is a graphics write of one of two bytes, chosen by bit 1 (45 R223). -/
theorem setEnabled_enableBit (v : Byte) :
    GraphicsObject.setEnabled (enableBit v) =
      GraphicsObject.setGraphics (if v.toNat / 2 % 2 = 1 then 0xFF else 0x00) := by
  funext o
  rw [GraphicsObject.setEnabled, enableBit, getLsbD_eq_decide]
  simp only [decide_eq_true_eq]
  rfl

/-- Settles O41: `setGraphics` of the enable byte on one record. -/
theorem enableWritesFillTheByteAndArmTheLatch : Obligations.EnableWritesFillTheByteAndArmTheLatch := by
  intro v s g
  simp only [exec, execEnam0, execEnam1, execEnabl, setEnabled_enableBit]
  exact ⟨rfl, rfl, rfl⟩

/-- Settles O43: bit 0 of the byte. -/
theorem delayEnableWritesSwitchTheByteOnly : Obligations.DelayEnableWritesSwitchTheByteOnly := by
  intro v s d
  have hbit : delayBit v = d := getLsbD_zero_eq_decide v
  simp only [exec, execVdelp0, execVdelp1, execVdelbl, hbit]
  exact ⟨rfl, rfl, rfl⟩

/-! ## Reads and INIT -/

/-- The returned byte in numbers (46 R260). -/
theorem packRead_eq (a b : Bool) : packRead a b = BitVec.ofNat 8 (128 * a.toNat + 64 * b.toNat) := by
  cases a <;> cases b <;> rfl

/-- Settles O49: each read packs its two slots of the read map. -/
theorem collisionReadsReturnTwoLatches : Obligations.CollisionReadsReturnTwoLatches := by
  intro s r cx
  have hr (a b : Bool) : r a b = .next (s.returnByte (packRead a b)) := by rw [packRead_eq]; rfl
  simp only [hr]
  exact ⟨rfl, rfl, rfl, rfl, rfl, rfl, rfl, rfl⟩

/-- Settles O53: INIT leaves the block of the reset state, whose fields are these. -/
theorem initGivesTheDefaultsFromAnyState : Obligations.InitGivesTheDefaultsFromAnyState :=
  fun s => ⟨_, exec_init s, rfl, rfl, rfl, rfl, rfl, rfl, rfl, rfl, rfl, rfl, rfl, rfl, rfl, rfl, rfl, rfl, rfl, rfl⟩

end Sys2Proof.Machine
end

section
/-! SUPPORT. What the events other than CLK and INIT can do to the block, said once: the fields of the timing controller
(spec/10_state.md R30 to R36), the wires (spec/20_memory.md R73, R76), and each of the six object records
(spec/45_register_writes.md). -/

namespace Sys2Proof.Machine

/-- Every event is total (60 R281). -/
theorem exec_completes (i : Instr) (s : State) : ∃ t, exec i s = .next t := by
  cases i <;> exact ⟨_, rfl⟩

/-! ## VSYNC -/

/-- The block after a VSYNC write, in its three branches (42 R160). -/
theorem exec_vsync_cases {v : Byte} {s t : State} (h : exec (.vsync v) s = .next t) :
    t = s ∨ (s.chip.vsyncing = false ∧ t = s.frameBoundary) ∨
      t = s.updChip fun c => { c with vsyncing := false } := by
  rw [exec_vsync, Host.Outcome.next.injEq] at h
  subst h
  by_cases hlevel : syncLevel v = true
  · by_cases hsync : s.chip.vsyncing = true
    · exact .inl (by rw [if_pos hlevel, if_pos hsync])
    · exact .inr (.inl ⟨Bool.eq_false_of_not_eq_true hsync, by rw [if_pos hlevel, if_neg hsync]⟩)
  · exact .inr (.inr (by rw [if_neg hlevel]))

/-! ## The timing controller -/

/-- Two blocks with the same timing controller. -/
structure Chip.SameTiming (c d : Chip) : Prop where
  horCnt : d.horCnt = c.horCnt
  verCnt : d.verCnt = c.verCnt
  vsyncing : d.vsyncing = c.vsyncing
  wsyncNextLine : d.wsyncNextLine = c.wsyncNextLine
  halt : d.halt = c.halt
  frameArmed : d.frameArmed = c.frameArmed
  backgroundColor : d.backgroundColor = c.backgroundColor

/-- The six events that write a field of the timing controller. -/
def Instr.writesTiming : Instr → Bool
  | .clk | .init | .vsync _ | .wsync _ | .rsync _ | .colubk _ => true
  | _ => false

/-- No other event does. -/
theorem exec_sameTiming {i : Instr} {s t : State} (hi : Instr.writesTiming i = false) (h : exec i s = .next t) :
    s.chip.SameTiming t.chip := by
  cases i with
  | clk | init | vsync | wsync | rsync | colubk => cases hi
  | _ => cases h; exact ⟨rfl, rfl, rfl, rfl, rfl, rfl, rfl⟩

/-- Of the timing controller VSYNC writes the level, the line and the arming, and it disarms nothing. -/
theorem exec_vsync_timing {v : Byte} {s t : State} (h : exec (.vsync v) s = .next t) :
    t.chip.horCnt = s.chip.horCnt ∧ t.chip.wsyncNextLine = s.chip.wsyncNextLine ∧ t.chip.halt = s.chip.halt ∧
      t.chip.backgroundColor = s.chip.backgroundColor ∧ (s.chip.frameArmed = true → t.chip.frameArmed = true) := by
  obtain rfl | ⟨-, rfl⟩ | rfl := exec_vsync_cases h
  · exact ⟨rfl, rfl, rfl, rfl, id⟩
  · rw [State.frameBoundary_chip]
    exact ⟨rfl, rfl, rfl, rfl, fun _ => rfl⟩
  · exact ⟨rfl, rfl, rfl, rfl, id⟩

/-- The beam moves by CLK, RSYNC and INIT only. -/
theorem exec_horCnt_of_ne {i : Instr} {s t : State} (hclk : i ≠ .clk) (hinit : i ≠ .init)
    (hrsync : ∀ v, i ≠ .rsync v) (h : exec i s = .next t) : t.chip.horCnt = s.chip.horCnt := by
  cases i with
  | clk => exact absurd rfl hclk
  | init => exact absurd rfl hinit
  | rsync v => exact absurd rfl (hrsync v)
  | vsync v => exact (exec_vsync_timing h).1
  | wsync | colubk => cases h; rfl
  | _ => exact (exec_sameTiming rfl h).horCnt

/-! ## The wires -/

/-- CLK and VSYNC are the only sources of output events. -/
theorem exec_outputs_of_ne {i : Instr} {s t : State} (hclk : i ≠ .clk) (hvsync : ∀ v, i ≠ .vsync v)
    (h : exec i s = .next t) : t.outputs = s.outputs := by
  cases i with
  | clk => exact absurd rfl hclk
  | vsync v => exact absurd rfl (hvsync v)
  | _ => cases h; rfl

/-- The eight reads of a latch pair. -/
def matchedReads : List Instr := [.cxm0p, .cxm1p, .cxp0fb, .cxp1fb, .cxm0fb, .cxm1fb, .cxblpf, .cxppmm]

/-- A read of a latch pair returns a packed byte and changes nothing else. -/
theorem exec_matchedRead {i : Instr} {s t : State} (hi : i ∈ matchedReads) (h : exec i s = .next t) :
    ∃ a b : Bool, t = { s with reads := packRead a b :: s.reads } := by
  fin_cases hi <;> cases h <;> exact ⟨_, _, rfl⟩

/-- What is no read returns no byte. -/
theorem exec_reads_of_not_read {i : Instr} {s t : State} (hmatched : i ∉ matchedReads) (hrzero : ∀ a, i ≠ .rzero a)
    (h : exec i s = .next t) : t.reads = s.reads := by
  cases i with
  | cxm0p | cxm1p | cxp0fb | cxp1fb | cxm0fb | cxm1fb | cxblpf | cxppmm => exact absurd (by decide) hmatched
  | rzero a => exact absurd rfl (hrzero a)
  | clk => cases h; exact s.colorClock_wires.2.2
  | vsync v =>
    obtain rfl | ⟨-, rfl⟩ | rfl := exec_vsync_cases h
    · rfl
    · exact s.frameBoundary_wires.2.2
    · rfl
  | _ => cases h; rfl

/-- Settles O51: a read packs its two latches, RZERO returns 0, and what is no read returns nothing. -/
theorem onlyReadsReturnBytesAndChangeNothing : Obligations.OnlyReadsReturnBytesAndChangeNothing := by
  intro i s t h isRead
  refine ⟨fun hread => ?_, fun hnot => ?_⟩
  · obtain hmatched | ⟨a, rfl⟩ := hread
    · obtain ⟨a, b, rfl⟩ := exec_matchedRead hmatched h
      exact ⟨_, packRead_low a b, rfl⟩
    · cases h
      exact ⟨0x00, rfl, rfl⟩
  · exact exec_reads_of_not_read (fun hmatched => hnot (.inl hmatched)) (fun a ha => hnot (.inr ⟨a, ha⟩)) h

/-! ## The object records -/

/-- The legal widths of each record (10 R22). -/
def ObjId.legalWidths : ObjId → List Nat
  | .P0 | .P1 => [8, 16, 32]
  | .M0 | .M1 | .BL => [1, 2, 4, 8]
  | .PF => [Config.lineWidth]

/-- What the events other than CLK and INIT can make of one record: no write, one of the setters under the conditions
of the register bank, the position reset, the motion, and these one after another. -/
inductive RecordWrite (i : ObjId) : GraphicsObject → GraphicsObject → Prop where
  | none (o : GraphicsObject) : RecordWrite i o o
  | decoders (hi : i ∈ [ObjId.P0, .P1, .M0, .M1]) {d : List Nat} (hd : d ∈ legalDecoderSets) (o : GraphicsObject) :
      RecordWrite i o (o.setDecoders d)
  | width {n : Nat} (hn : n ∈ i.legalWidths) (o : GraphicsObject) : RecordWrite i o (o.setWidth n)
  | graphics (hi : i ∈ [ObjId.P0, .P1]) (b : Byte) (o : GraphicsObject) : RecordWrite i o (o.setGraphics b)
  | enable (hi : i ∈ [ObjId.M0, .M1, .BL]) (e : Bool) (o : GraphicsObject) : RecordWrite i o (o.setEnabled e)
  | offset (b : Byte) (o : GraphicsObject) : RecordWrite i o (o.setOffset b)
  | color (b : Byte) (o : GraphicsObject) : RecordWrite i o (o.setColor b)
  | delayed (hi : i ∈ [ObjId.P0, .P1, .BL]) (d : Bool) (o : GraphicsObject) : RecordWrite i o (o.setDelayed d)
  | reflected (r : Bool) (o : GraphicsObject) : RecordWrite i o (o.setReflected r)
  | position (hi : i ≠ .PF) (h cyc : Nat) (o : GraphicsObject) : RecordWrite i o (o.resetPos h cyc)
  | motion (hi : i ≠ .PF) (o : GraphicsObject) : RecordWrite i o o.move
  | trans {o p q : GraphicsObject} (hop : RecordWrite i o p) (hpq : RecordWrite i p q) : RecordWrite i o q

/-- Each of the six records of a block written so. -/
def Chip.RecordWrites (c d : Chip) : Prop := ∀ i : ObjId, RecordWrite i (c.obj i) (d.obj i)

theorem Chip.RecordWrites.of_obj_eq {c d : Chip} (h : ∀ i, d.obj i = c.obj i) : c.RecordWrites d :=
  fun i => by rw [h]; exact .none _

theorem Chip.RecordWrites.trans {c d e : Chip} (hcd : c.RecordWrites d) (hde : d.RecordWrites e) : c.RecordWrites e :=
  fun i => (hcd i).trans (hde i)

/-- An operation on one record is a write of that record alone. -/
theorem Chip.recordWrites_modObj (c : Chip) {f : GraphicsObject → GraphicsObject} {i : ObjId}
    (hf : ∀ o, RecordWrite i o (f o)) : c.RecordWrites (c.modObj f i) := by
  intro j
  rw [Chip.modObj_obj]
  split
  · next hj => subst hj; exact hf _
  · exact .none _

theorem Chip.recordWrites_modMovables (c : Chip) {f : GraphicsObject → GraphicsObject}
    (hf : ∀ i, i ≠ ObjId.PF → ∀ o, RecordWrite i o (f o)) : c.RecordWrites (c.modMovables f) := by
  intro i
  by_cases hi : i = .PF
  · subst hi; exact .none _
  · rw [Chip.modMovables_obj hi]; exact hf i hi _

/-- A count/size register writes legal sizes to its missile and its player (45 R203). -/
theorem Chip.recordWrites_configureSize (c : Chip) {m p : ObjId} (hm : m ∈ [ObjId.M0, .M1]) (hp : p ∈ [ObjId.P0, .P1])
    (v : Byte) : c.RecordWrites (c.configureSize m p v) := by
  obtain ⟨hdecoders, hplayer⟩ := nusizTable_legal (nusizCode v)
  have hmissile : m ∈ [ObjId.P0, .P1, .M0, .M1] ∧ spanWidth v ∈ m.legalWidths := by
    have := spanWidth_legal v
    fin_cases hm <;> exact ⟨by decide, this⟩
  have hplayers : p ∈ [ObjId.P0, .P1, .M0, .M1] ∧ (nusizTable (nusizCode v)).2 ∈ p.legalWidths := by
    fin_cases hp <;> exact ⟨by decide, hplayer⟩
  exact (c.recordWrites_modObj fun o => (RecordWrite.decoders hmissile.1 hdecoders o).trans (.width hmissile.2 _)).trans
    (Chip.recordWrites_modObj _ fun o => (RecordWrite.decoders hplayers.1 hdecoders o).trans (.width hplayers.2 _))

/-- VSYNC writes no record. -/
theorem exec_vsync_obj {v : Byte} {s t : State} (h : exec (.vsync v) s = .next t) (i : ObjId) :
    t.chip.obj i = s.chip.obj i := by
  obtain rfl | ⟨-, rfl⟩ | rfl := exec_vsync_cases h
  · rfl
  · rw [State.frameBoundary_chip]; cases i <;> rfl
  · cases i <;> rfl

/-- Every event but CLK and INIT writes the records so. -/
theorem exec_recordWrites {i : Instr} {s t : State} (hclk : i ≠ .clk) (hinit : i ≠ .init) (h : exec i s = .next t) :
    s.chip.RecordWrites t.chip := by
  cases i with
  | clk => exact absurd rfl hclk
  | init => exact absurd rfl hinit
  | vsync v => exact .of_obj_eq (exec_vsync_obj h)
  | nusiz0 v => cases h; exact s.chip.recordWrites_configureSize (by decide) (by decide) v
  | nusiz1 v => cases h; exact s.chip.recordWrites_configureSize (by decide) (by decide) v
  | colup0 v =>
    cases h
    exact ((s.chip.recordWrites_modObj (i := .P0) (.color v)).trans
      (Chip.recordWrites_modObj _ (i := .M0) (.color v))).trans (.of_obj_eq fun j => by cases j <;> rfl)
  | colup1 v =>
    cases h
    exact ((s.chip.recordWrites_modObj (i := .P1) (.color v)).trans
      (Chip.recordWrites_modObj _ (i := .M1) (.color v))).trans (.of_obj_eq fun j => by cases j <;> rfl)
  | colupf v =>
    cases h
    exact (s.chip.recordWrites_modObj (i := .PF) (.color v)).trans (Chip.recordWrites_modObj _ (i := .BL) (.color v))
  | ctrlpf v =>
    cases h
    exact ((s.chip.recordWrites_modObj (i := .PF) (.reflected (ctrlReflect v))).trans
      (.of_obj_eq fun j => by cases j <;> rfl)).trans (Chip.recordWrites_modObj _ (.width (spanWidth_legal v)))
  | refp0 v | refp1 v => cases h; exact s.chip.recordWrites_modObj (.reflected _)
  | resp0 v | resp1 v | resm0 v | resm1 v | resbl v =>
    cases h; exact s.chip.recordWrites_modObj (.position (by decide) _ _)
  | grp0 v | grp1 v => cases h; exact s.chip.recordWrites_modObj (.graphics (by decide) v)
  | enam0 v | enam1 v | enabl v => cases h; exact s.chip.recordWrites_modObj (.enable (by decide) _)
  | hmp0 v | hmp1 v | hmm0 v | hmm1 v | hmbl v => cases h; exact s.chip.recordWrites_modObj (.offset v)
  | vdelp0 v | vdelp1 v | vdelbl v => cases h; exact s.chip.recordWrites_modObj (.delayed (by decide) _)
  | hmove v => cases h; exact s.chip.recordWrites_modMovables fun _ hj => .motion hj
  | hmclr v => cases h; exact s.chip.recordWrites_modMovables fun _ _ => .offset _
  -- Every other event writes no record.
  | _ => cases h; exact .of_obj_eq fun j => by cases j <;> rfl

/-! ## What no such write does -/

/-- Only a tick and INIT write the latched byte (92 D32). -/
theorem RecordWrite.delayedGraphics_eq {i : ObjId} {o p : GraphicsObject} (h : RecordWrite i o p) :
    p.delayedGraphics = o.delayedGraphics := by
  induction h with
  | motion hi o => exact o.move_delayedGraphics
  | trans _ _ hop hpq => exact hpq.trans hop
  | _ => rfl

/-- Only a tick and INIT write the playfield's position. -/
theorem RecordWrite.playfield_posCnt_eq {o p : GraphicsObject} (h : RecordWrite .PF o p) : p.posCnt = o.posCnt := by
  induction h with
  | position hi => exact absurd rfl hi
  | motion hi => exact absurd rfl hi
  | trans _ _ hop hpq => exact hpq.trans hop
  | _ => rfl

end Sys2Proof.Machine
end

section
/-! SUPPORT. The statements on one colour clock (spec/42_scan_timing.md R150 to R156; spec/40_graphics_object.md R113;
spec/43_collision.md R181; spec/60_exceptions.md R290): the records, the latches, the outputs, the frame, and what the
work of a clock does not depend on. -/

namespace Sys2Proof.Machine

/-! ## The records -/

/-- The advance and the resume strobe do not write the playfield. -/
@[simp] theorem Chip.strobed_pf (c : Chip) : c.strobed.pf = c.pf := by
  rw [Chip.strobed_eq]

/-- The six ticks of a clock see the records as they stood before it. -/
@[simp] theorem Chip.strobed_colors (c : Chip) : c.strobed.colors = c.colors := by
  rw [Chip.strobed_eq]; rfl

/-- One tick of each record where the new counter is visible (42 R154, R155). -/
theorem State.colorClock_obj (s : State) (o : ObjId) :
    s.colorClock.chip.obj o =
      if Config.lineStart ≤ s.colorClock.chip.horCnt then (tick s.chip.pf (s.chip.obj o)).2 else s.chip.obj o := by
  rw [State.colorClock_horCnt, State.colorClock_chip, apply_ite (fun c => Chip.obj c o), Chip.rasterized_obj,
    Chip.strobed_pf, Chip.strobed_obj]

/-- Settles O15: a tick's record and colour in their closed forms, and the events that write no latched byte. -/
theorem visibleClkTicksEachObjectOnce : Obligations.VisibleClkTicksEachObjectOnce := by
  refine ⟨fun s => ⟨_, exec_clk s, fun o => ?_⟩, fun pf a => ?_, fun i s t o h hclk hinit => ?_⟩
  · rw [State.colorClock_obj, tick_snd]; rfl
  · show (tick pf a).1 = if a.loaded = 0 then none else _
    rw [tick_fst]
    simp only [Nat.pos_iff_ne_zero, ite_not]
    rfl
  · exact (exec_recordWrites hclk hinit h o).delayedGraphics_eq

/-! ## The latches -/

/-- Settles O16: the update of the matrix with the colours the six ticks returned. -/
theorem visibleClkLatchesOverlaps : Obligations.VisibleClkLatchesOverlaps := by
  intro s
  refine ⟨_, exec_clk s, ?_⟩
  rw [State.colorClock_horCnt, State.colorClock_cx, Chip.strobed_colors]
  rfl

/-! ## The outputs -/

/-- A pixel and a resume never come out of one clock: the strobe's position is in the blank. -/
theorem Chip.advance_not_visible_of_resumes {c : Chip} (h : c.advance.resumes = true) :
    ¬ Config.lineStart ≤ c.advance.horCnt := by
  rw [((Chip.resumes_iff _).mp h).1]; decide

/-- The output of one clock, by its three cases. -/
theorem State.colorClock_outputs_cases (s : State) :
    s.colorClock.outputs =
      if Config.lineStart ≤ s.colorClock.chip.horCnt then
        if s.chip.frameArmed = true ∧ Config.vblankLines ≤ s.colorClock.chip.verCnt then
          .pixel (s.colorClock.chip.horCnt - Config.lineStart) (s.colorClock.chip.verCnt - Config.vblankLines)
            s.chip.strobed.pixelColor :: s.outputs
        else s.outputs
      else if s.chip.advance.resumes then .resume :: s.outputs
      else s.outputs := by
  rw [State.colorClock_outputs, State.colorClock_horCnt, State.colorClock_verCnt]
  by_cases hvisible : Config.lineStart ≤ s.chip.advance.horCnt
  · have hresumes : ¬ s.chip.advance.resumes = true := fun h => Chip.advance_not_visible_of_resumes h hvisible
    by_cases hforward : s.chip.frameArmed = true ∧ Config.vblankLines ≤ s.chip.advance.verCnt
    · simp [hvisible, hresumes, hforward]
    · simp [hvisible, hresumes, hforward]
  · by_cases hresumes : s.chip.advance.resumes = true
    · simp [hvisible, hresumes]
    · simp [hvisible, hresumes]

/-- The composed colour is of the ticks, the priority and the background of the block before the clock. -/
theorem Chip.strobed_pixelColor (c : Chip) : c.strobed.pixelColor = c.pixelColor := by
  have hbackground : c.strobed.backgroundColor = c.backgroundColor := by rw [Chip.strobed_eq]
  rw [Chip.pixelColor, Chip.strobed_colors, Chip.strobed_pf, hbackground]; rfl

/-- The strobe's condition, on the new counter and the old flag. -/
theorem State.resumes_iff (s : State) :
    s.chip.advance.resumes = true ↔ s.colorClock.chip.horCnt = 6 ∧ s.chip.wsyncNextLine = true := by
  rw [State.colorClock_horCnt]; exact s.chip.advance_resumes_iff

/-- Settles O17: the three cases of a clock's output. -/
theorem visibleClkForwardsTheComposedPixel : Obligations.VisibleClkForwardsTheComposedPixel := by
  intro s
  refine ⟨_, exec_clk s, ?_⟩
  rw [State.colorClock_outputs_cases, Chip.strobed_pixelColor]
  simp only [State.resumes_iff]
  rfl

/-! ## The frame -/

/-- The playfield's own fields are in no record a tick writes. -/
theorem State.colorClock_pf (s : State) :
    s.colorClock.chip.pf = { s.chip.pf with toGraphicsObject := s.colorClock.chip.pf.toGraphicsObject } := by
  rw [State.colorClock_chip]
  split
  · rw [Chip.rasterized_pf]
    exact congrArg (fun pf : Playfield => { pf with toGraphicsObject := s.chip.strobed.ticked.pf.toGraphicsObject })
      s.chip.strobed_pf
  · rw [Chip.strobed_pf]

/-- The fields of the block no stage of a clock writes. -/
theorem State.colorClock_frame (s : State) :
    s.colorClock.chip.vsyncing = s.chip.vsyncing ∧ s.colorClock.chip.frameArmed = s.chip.frameArmed ∧
      s.colorClock.chip.backgroundColor = s.chip.backgroundColor ∧ s.colorClock.chip.resmp0 = s.chip.resmp0 ∧
      s.colorClock.chip.resmp1 = s.chip.resmp1 := by
  rw [State.colorClock_chip, Chip.strobed_eq]
  split <;> exact ⟨rfl, rfl, rfl, rfl, rfl⟩

/-- Settles O18: the frame of the block and that of the wires. -/
theorem clkFrame : Obligations.ClkFrame := by
  intro s
  obtain ⟨hvsyncing, harmed, hbackground, hresmp0, hresmp1⟩ := s.colorClock_frame
  exact ⟨_, exec_clk s, s.colorClock_pf, hvsyncing, harmed, hbackground, hresmp0, hresmp1, s.colorClock_wires⟩

/-! ## Collisions without colours -/

/-- Whether a lookup emits does not depend on the colours, nor on the score mode and the priority. -/
theorem colorLookup_isSome_colorless (c : Chip) (o : GraphicsObject) :
    (colorLookup c.colorless.pf o.colorless).isSome = (colorLookup c.pf o).isSome := by
  have hplayfield : (playfieldColor { c.colorless.pf with toGraphicsObject := o.colorless }).isSome =
      (playfieldColor { c.pf with toGraphicsObject := o }).isSome := by
    simp only [playfieldColor, apply_ite Option.isSome, Option.isSome_some, Option.isSome_none]; rfl
  have hplayer : o.colorless.playerColor.isSome = o.playerColor.isSome := by
    simp only [GraphicsObject.playerColor, apply_ite Option.isSome, Option.isSome_some, Option.isSome_none]; rfl
  have hmissileBall : o.colorless.missileBallColor.isSome = o.missileBallColor.isSome := by
    simp only [GraphicsObject.missileBallColor, apply_ite Option.isSome, Option.isSome_some, Option.isSome_none]; rfl
  unfold colorLookup
  have hvariant : o.colorless.variant = o.variant := rfl
  rw [hvariant]
  cases o.variant with
  | player => exact hplayer
  | missile => exact hmissileBall
  | ball => exact hmissileBall
  | playfield => exact hplayfield

theorem tick_isSome_colorless (c : Chip) (o : GraphicsObject) :
    (tick c.colorless.pf o.colorless).1.isSome = (tick c.pf o).1.isSome := by
  rw [tick_fst, tick_fst, apply_ite Option.isSome, apply_ite Option.isSome, ← colorLookup_isSome_colorless c]
  rfl

theorem Chip.colorless_obj (c : Chip) (o : ObjId) : c.colorless.obj o = (c.obj o).colorless := by
  cases o <;> rfl

theorem Chip.colors_isSome_colorless (c : Chip) (o : ObjId) :
    (c.colorless.colors.get o).isSome = (c.colors.get o).isSome := by
  rw [Chip.colors_get, Chip.colors_get, Chip.colorless_obj, tick_isSome_colorless]

/-- The update reads of a colour only whether there is one (43 R181). -/
theorem Collisions.update_congr (cx : Collisions) {c d : Colors} (h : ∀ o, (c.get o).isSome = (d.get o).isSome) :
    cx.update c = cx.update d := by
  simp only [Collisions.update, Collisions.latched, Latch.overlaps, h]

/-- The matrix after a clock, from the block without what a collision must not depend on. -/
theorem State.colorClock_cx_colorless (s : State) :
    s.colorClock.chip.cx =
      if Config.lineStart ≤ s.chip.colorless.advance.horCnt then s.chip.colorless.cx.update s.chip.colorless.colors
      else s.chip.colorless.cx := by
  have hhor : s.chip.colorless.advance.horCnt = s.chip.advance.horCnt := by
    rw [Chip.advance_horCnt, Chip.advance_horCnt]; rfl
  rw [State.colorClock_cx, Chip.strobed_colors, hhor, Collisions.update_congr _ s.chip.colors_isSome_colorless]
  rfl

/-- Settles O20: the matrix after a clock is a function of the colourless block. -/
theorem collisionsIgnoreColoursAndLines : Obligations.CollisionsIgnoreColoursAndLines := by
  intro s t u v hsame ht hv
  rw [exec_clk] at ht hv
  cases ht
  cases hv
  rw [State.colorClock_cx_colorless, State.colorClock_cx_colorless, hsame]

/-! ## The halt -/

/-- The block with another level toward the CPU and another pending flag. -/
def Chip.withHalt (h w : Bool) (c : Chip) : Chip := { c with halt := h, wsyncNextLine := w }

/-- Every write of the advance and of the strobe but the beam's is to these two fields. -/
theorem Chip.strobed_withHalt (h w a b : Bool) (c : Chip) :
    (c.withHalt h w).strobed.withHalt a b = c.strobed.withHalt a b := by
  rw [Chip.strobed_eq (c.withHalt h w), Chip.strobed_eq c, Chip.advance_horCnt, Chip.advance_horCnt,
    Chip.advance_verCnt, Chip.advance_verCnt]
  rfl

theorem Chip.advance_horCnt_withHalt (h w : Bool) (c : Chip) : (c.withHalt h w).advance.horCnt = c.advance.horCnt := by
  rw [Chip.advance_horCnt, Chip.advance_horCnt]; rfl

theorem Chip.advance_verCnt_withHalt (h w : Bool) (c : Chip) : (c.withHalt h w).advance.verCnt = c.advance.verCnt := by
  rw [Chip.advance_verCnt, Chip.advance_verCnt]; rfl

/-- The video work reads neither of the two fields. -/
theorem State.colorClock_chip_withHalt (h w a b : Bool) (s : State) :
    (s.updChip (Chip.withHalt h w)).colorClock.chip.withHalt a b = s.colorClock.chip.withHalt a b := by
  have hstrobed := s.chip.strobed_withHalt h w a b
  rw [State.colorClock_chip, State.colorClock_chip, State.updChip_chip, Chip.advance_horCnt_withHalt]
  split
  · exact congrArg Chip.rasterized hstrobed
  · exact hstrobed

/-- The outputs of a clock but for the Resume. -/
theorem State.colorClock_outputs_ne_resume (s : State) :
    s.colorClock.outputs.filter (· ≠ .resume) =
      (if Config.lineStart ≤ s.chip.advance.horCnt ∧ s.chip.frameArmed ∧
            Config.vblankLines ≤ s.chip.advance.verCnt then
        [.pixel (s.chip.advance.horCnt - Config.lineStart) (s.chip.advance.verCnt - Config.vblankLines)
          s.chip.pixelColor]
       else []) ++ s.outputs.filter (· ≠ .resume) := by
  rw [State.colorClock_outputs, List.filter_append, List.filter_append, Chip.strobed_pixelColor]
  congr 1
  split <;> split <;> simp

/-- Settles O21: a clock commutes with replacing the two fields, up to these fields and the Resume. -/
theorem haltDoesNotStopTheBlock : Obligations.HaltDoesNotStopTheBlock := by
  intro s t u h w ht hu
  rw [exec_clk] at ht hu
  cases ht
  cases hu
  constructor
  · exact s.colorClock_chip_withHalt h w _ _
  · have hpixel : (s.updChip (Chip.withHalt h w)).colorClock.outputs.filter (· ≠ .resume) =
        s.colorClock.outputs.filter (· ≠ .resume) := by
      rw [State.colorClock_outputs_ne_resume, State.colorClock_outputs_ne_resume, State.updChip_chip,
        Chip.advance_horCnt_withHalt, Chip.advance_verCnt_withHalt]
      rfl
    exact hpixel

/-! ## Over every event -/

/-- Settles O11: the output of a clock by its cases, that of VSYNC by its branches; no other event has one. -/
theorem eachOutputHasItsOneSource : Obligations.EachOutputHasItsOneSource := by
  intro i s t h
  cases i with
  | clk =>
    cases h
    rw [State.colorClock_outputs_cases]
    split
    · next hvisible =>
      split
      · next hforward =>
        refine .inr ⟨_, rfl, rfl, ?_, ?_⟩
        · exact (Nat.add_sub_of_le hvisible).symm
        · exact (Nat.add_sub_of_le hforward.2).symm
      · exact .inl rfl
    · split
      · next hresumes =>
        refine .inr ⟨_, rfl, rfl, (s.resumes_iff.mp hresumes).1, ?_⟩
        rw [State.colorClock_halt, if_pos hresumes]
      · exact .inl rfl
  | vsync v =>
    obtain rfl | ⟨-, rfl⟩ | rfl := exec_vsync_cases h
    · exact .inl rfl
    · rw [State.frameBoundary_outputs, State.frameBoundary_chip]
      split
      · exact .inr ⟨_, rfl, v, rfl, rfl⟩
      · exact .inl rfl
    · exact .inl rfl
  | _ => exact .inl (exec_outputs_of_ne (by simp) (by simp) h)

/-- Settles O12: the five writers of a timing field by their meaning, the other events by `exec_sameTiming`. -/
theorem timingFieldsHaveTheirWriters : Obligations.TimingFieldsHaveTheirWriters := by
  intro i s t h hinit
  cases i with
  | init => exact absurd rfl hinit
  | clk =>
    cases h
    obtain ⟨hvsyncing, harmed, hbackground, -, -⟩ := s.colorClock_frame
    exact ⟨fun hne => absurd rfl hne, fun hne => absurd rfl hne, fun _ => ⟨hvsyncing, harmed⟩,
      fun hne => absurd rfl hne, fun hne => absurd rfl hne, fun _ => hbackground, harmed.trans⟩
  | vsync v =>
    obtain ⟨hhor, hpending, hhalt, hbackground, harmed⟩ := exec_vsync_timing h
    exact ⟨fun _ _ => hhor, fun _ hne => absurd rfl (hne v), fun hne => absurd rfl (hne v), fun _ => hpending,
      fun _ _ => hhalt, fun _ => hbackground, harmed⟩
  | wsync v =>
    cases h
    exact ⟨fun _ _ => rfl, fun _ _ => rfl, fun _ => ⟨rfl, rfl⟩, fun _ => rfl, fun _ hne => absurd rfl (hne v),
      fun _ => rfl, id⟩
  | rsync v =>
    cases h
    exact ⟨fun _ hne => absurd rfl (hne v), fun _ _ => rfl, fun _ => ⟨rfl, rfl⟩, fun _ => rfl, fun _ _ => rfl,
      fun _ => rfl, id⟩
  | colubk v =>
    cases h
    exact ⟨fun _ _ => rfl, fun _ _ => rfl, fun _ => ⟨rfl, rfl⟩, fun _ => rfl, fun _ _ => rfl,
      fun hne => absurd rfl (hne v), id⟩
  | _ =>
    obtain ⟨hhor, hver, hvsyncing, hpending, hhalt, harmed, hbackground⟩ := exec_sameTiming rfl h
    exact ⟨fun _ _ => hhor, fun _ _ => hver, fun _ => ⟨hvsyncing, harmed⟩, fun _ => hpending, fun _ _ => hhalt,
      fun _ => hbackground, harmed.trans⟩

/-! ## Before the first vertical sync -/

/-- An unarmed clock puts out no pixel (42 R156). -/
theorem State.colorClock_pixels_of_unarmed {s : State} (h : s.chip.frameArmed = false) :
    s.colorClock.outputs.filter Output.isPixel = s.outputs.filter Output.isPixel := by
  rw [State.colorClock_outputs_cases, h]
  split
  · rw [if_neg (by simp)]
  · split <;> rfl

/-- One event that is no VSYNC leaves an unarmed state unarmed, with the same pixels in its stream. -/
theorem exec_pixels_of_unarmed {i : Instr} {s t : State} (harmed : s.chip.frameArmed = false)
    (hvsync : ∀ v, i ≠ .vsync v) (h : exec i s = .next t) :
    t.chip.frameArmed = false ∧ t.outputs.filter Output.isPixel = s.outputs.filter Output.isPixel := by
  constructor
  · by_cases hinit : i = .init
    · subst hinit; rw [exec_init] at h; cases h; rfl
    · obtain ⟨-, -, hframe, -⟩ := timingFieldsHaveTheirWriters i s t h hinit
      rw [(hframe hvsync).2, harmed]
  · by_cases hclk : i = .clk
    · subst hclk; rw [exec_clk] at h; cases h
      exact State.colorClock_pixels_of_unarmed harmed
    · rw [exec_outputs_of_ne hclk hvsync h]

/-- Settles O13: by induction on the events, each of which keeps the state unarmed. -/
theorem noPixelBeforeTheFirstVerticalSync : Obligations.NoPixelBeforeTheFirstVerticalSync := by
  intro is
  induction is with
  | nil => intro s t _ _ h; cases h; rfl
  | cons i is ih =>
    intro s t harmed hvsync h
    obtain ⟨u, hu⟩ := exec_completes i s
    obtain ⟨huArmed, huPixels⟩ :=
      exec_pixels_of_unarmed harmed (fun v hv => hvsync v (hv ▸ List.mem_cons_self)) hu
    rw [execAll_cons_next hu] at h
    exact (ih u t huArmed (fun v hv => hvsync v (List.mem_cons_of_mem i hv)) h).trans huPixels

/-! ## The playfield's position -/

/-- A position in range is the ticks of the line plus `k` exactly where its place on the line is `k`. -/
theorem Chip.aligned_iff_linePlace {c : Chip} {o : ObjId} (hhor : c.horCnt < Config.lineTotal) (k : Nat) :
    (c.obj o).posCnt = (ticksOfLine c.horCnt + k) % Config.lineWidth ↔
      (c.obj o).posCnt < Config.lineWidth ∧ c.linePlace o = k % Config.lineWidth := by
  simp only [Chip.linePlace, ticksOfLine_eq, Config.lineTotal, Config.lineStart, Config.lineWidth] at hhor ⊢
  omega

/-- A clock keeps the place of an object on the line, and so its alignment. -/
theorem State.colorClock_aligned {s : State} {o : ObjId} {k : Nat} (hhor : s.chip.horCnt < Config.lineTotal)
    (h : (s.chip.obj o).posCnt = (ticksOfLine s.chip.horCnt + k) % Config.lineWidth) :
    (s.colorClock.chip.obj o).posCnt = (ticksOfLine s.colorClock.chip.horCnt + k) % Config.lineWidth := by
  obtain ⟨hpos, hplace⟩ := (Chip.aligned_iff_linePlace hhor k).mp h
  exact (Chip.aligned_iff_linePlace (State.colorClock_horCnt_lt hhor) k).mpr
    ⟨State.colorClock_posCnt_lt hpos, (State.colorClock_linePlace hhor o).trans hplace⟩

/-- Settles O54: CLK by `colorClock_aligned`; the events beside CLK, RSYNC and INIT write neither the beam
nor the position, and an RSYNC writes the beam only. -/
theorem playfieldStaysAlignedUntilRsync : Obligations.PlayfieldStaysAlignedUntilRsync := by
  intro i s t k hhor hinit h haligned
  constructor
  · intro hrsync
    by_cases hclk : i = .clk
    · subst hclk; rw [exec_clk] at h; cases h
      exact State.colorClock_aligned (o := .PF) hhor haligned
    · have hpos : t.chip.pf.posCnt = s.chip.pf.posCnt := (exec_recordWrites hclk hinit h .PF).playfield_posCnt_eq
      rw [hpos, exec_horCnt_of_ne hclk hinit hrsync h, haligned]
  · rintro ⟨v, rfl⟩
    cases h
    have hstart : ticksOfLine 0 = 0 := rfl
    show s.chip.pf.posCnt = (ticksOfLine 0 + (k + ticksOfLine s.chip.horCnt)) % 160
    rw [hstart, Nat.zero_add, Nat.add_comm, haligned]

end Sys2Proof.Machine
end

section
/-! SUPPORT. The ranges and the invariants of the block (spec/10_state.md R20 to R25, R43), record by record: what every
write of a record, every tick and INIT keep. -/

namespace Sys2Proof.Machine

/-! ## Ranges -/

theorem Chip.inRange_iff (c : Chip) : c.InRange ↔ (∀ i, (c.obj i).InRange) ∧ c.horCnt < Config.lineTotal := by
  constructor
  · rintro ⟨hp0, hp1, hm0, hm1, hbl, hpf, hhor⟩
    refine ⟨fun i => ?_, hhor⟩
    cases i with
    | P0 => exact hp0
    | P1 => exact hp1
    | M0 => exact hm0
    | M1 => exact hm1
    | BL => exact hbl
    | PF => exact hpf
  · rintro ⟨hobj, hhor⟩
    exact ⟨hobj .P0, hobj .P1, hobj .M0, hobj .M1, hobj .BL, hobj .PF, hhor⟩

/-- No write of a record leaves its ranges; the width setter by its clamp (92 D17). -/
theorem RecordWrite.inRange {i : ObjId} {o p : GraphicsObject} (h : RecordWrite i o p) (ho : o.InRange) :
    p.InRange := by
  induction h with
  | none | offset | color | delayed | reflected => exact ho
  | decoders _ hd => exact GraphicsObject.setDecoders_inRange hd ho
  | width => exact GraphicsObject.setWidth_inRange _ ho
  | graphics | enable => exact GraphicsObject.setGraphics_inRange _ ho
  | position => exact GraphicsObject.resetPos_inRange _ _ ho
  | motion => exact GraphicsObject.move_inRange ho
  | trans _ _ hop hpq => exact hpq (hop ho)

/-- The beam stays in its line over every event. -/
theorem exec_horCnt_lt {i : Instr} {s t : State} (h : exec i s = .next t) (hhor : s.chip.horCnt < Config.lineTotal) :
    t.chip.horCnt < Config.lineTotal := by
  cases i with
  | clk => cases h; exact State.colorClock_horCnt_lt hhor
  | init | rsync => cases h; exact Nat.zero_lt_succ _
  | _ => rw [exec_horCnt_of_ne (by simp) (by simp) (by simp) h]; exact hhor

/-- What holds of every initialised record, of every tick and of every write of a record holds of the records after any
event. -/
theorem exec_obj_induction {P : ObjId → GraphicsObject → Prop} (hinit : ∀ i, P i (Chip.init.obj i))
    (htick : ∀ i pf o, P i o → P i (tick pf o).2) (hwrite : ∀ i o p, RecordWrite i o p → P i o → P i p)
    {i : Instr} {s t : State} (h : exec i s = .next t) (hs : ∀ o, P o (s.chip.obj o)) (o : ObjId) :
    P o (t.chip.obj o) := by
  by_cases hi : i = .init
  · subst hi; cases h; exact hinit o
  · by_cases hclk : i = .clk
    · subst hclk; rw [exec_clk] at h; cases h
      rw [State.colorClock_obj]
      split
      · exact htick o _ _ (hs o)
      · exact hs o
    · exact hwrite o _ _ (exec_recordWrites hclk hi h o) (hs o)

theorem Chip.init_inRange : Chip.init.InRange := by decide

/-- Every event keeps the ranges. -/
theorem exec_inRange {i : Instr} {s t : State} (h : exec i s = .next t) (hs : s.chip.InRange) : t.chip.InRange := by
  obtain ⟨hobj, hhor⟩ := (Chip.inRange_iff _).mp hs
  refine (Chip.inRange_iff _).mpr ⟨fun o => ?_, exec_horCnt_lt h hhor⟩
  exact exec_obj_induction (P := fun _ r => r.InRange) ((Chip.inRange_iff _).mp Chip.init_inRange).1
    (fun _ pf _ => tick_inRange pf) (fun _ _ _ hw => hw.inRange) h hobj o

/-- Settles O7: every event completes in range, and a step is one unless its word spells none. -/
theorem everyEventHasASuccessorThatKeepsRanges : Obligations.EveryEventHasASuccessorThatKeepsRanges := by
  refine ⟨fun i s => ?_, fun s => ?_⟩
  · obtain ⟨t, ht⟩ := exec_completes i s
    exact ⟨t, ht, exec_inRange ht⟩
  · obtain ⟨-, hidle⟩ | ⟨e, rest, i, -, -, hstep⟩ | hrefused := step_cases s
    · exact .inl ⟨s, hidle⟩
    · obtain ⟨t, ht⟩ := exec_completes i (s.arrive e rest)
      exact .inl ⟨t, hstep.trans ht⟩
    · exact .inr hrefused

/-! ## The invariants, record by record -/

/-- The variant tag of each record (10 R20). -/
def ObjId.tag : ObjId → Variant
  | .P0 | .P1 => .player
  | .M0 | .M1 => .missile
  | .BL => .ball
  | .PF => .playfield

/-- The invariants of the block for one of its records (10 R20 to R25, R43). -/
structure GraphicsObject.Legal (i : ObjId) (o : GraphicsObject) : Prop where
  inRange : o.InRange
  variant : o.variant = i.tag
  width : o.width ∈ i.legalWidths
  decoders : i ∈ [ObjId.BL, .PF] → o.decoders = [0]
  enableBytes : i ∈ [ObjId.M0, .M1, .BL] → o.EnableBytes
  delayed : i ∈ [ObjId.M0, .M1] → o.delayed = false

/-- The invariants are those of the six records and the range of the beam. -/
theorem Chip.inv_iff (c : Chip) : c.Inv ↔ (∀ i, (c.obj i).Legal i) ∧ c.horCnt < Config.lineTotal := by
  constructor
  · rintro ⟨hrange, ⟨tp0, tp1, tm0, tm1, tbl, tpf⟩, ⟨wp0, wp1, wm0, wm1, wbl, wpf, dbl, dpf⟩, em0, em1, ebl, lm0, lm1⟩
    obtain ⟨hobj, hhor⟩ := c.inRange_iff.mp hrange
    refine ⟨fun i => ?_, hhor⟩
    cases i with
    | P0 => exact ⟨hobj _, tp0, wp0, by simp, by simp, by simp⟩
    | P1 => exact ⟨hobj _, tp1, wp1, by simp, by simp, by simp⟩
    | M0 => exact ⟨hobj _, tm0, wm0, by simp, fun _ => em0, fun _ => lm0⟩
    | M1 => exact ⟨hobj _, tm1, wm1, by simp, fun _ => em1, fun _ => lm1⟩
    | BL => exact ⟨hobj _, tbl, wbl, fun _ => dbl, fun _ => ebl, by simp⟩
    | PF => exact ⟨hobj _, tpf, List.mem_singleton.mpr wpf, fun _ => dpf, by simp, by simp⟩
  · rintro ⟨hl, hhor⟩
    exact ⟨c.inRange_iff.mpr ⟨fun i => (hl i).inRange, hhor⟩,
      ⟨(hl .P0).variant, (hl .P1).variant, (hl .M0).variant, (hl .M1).variant, (hl .BL).variant, (hl .PF).variant⟩,
      ⟨(hl .P0).width, (hl .P1).width, (hl .M0).width, (hl .M1).width, (hl .BL).width,
        List.mem_singleton.mp (hl .PF).width, (hl .BL).decoders (by decide), (hl .PF).decoders (by decide)⟩,
      (hl .M0).enableBytes (by decide), (hl .M1).enableBytes (by decide), (hl .BL).enableBytes (by decide),
      (hl .M0).delayed (by decide), (hl .M1).delayed (by decide)⟩

/-- Both bytes an enable write chooses from are legal. -/
theorem GraphicsObject.setEnabled_enableBytes (e : Bool) {o : GraphicsObject} (h : o.EnableBytes) :
    (o.setEnabled e).EnableBytes := by
  refine ⟨?_, h.2⟩
  cases e with
  | false => exact .inl rfl
  | true => exact .inr rfl

theorem GraphicsObject.move_enableBytes {o : GraphicsObject} (h : o.EnableBytes) : o.move.EnableBytes := by
  rw [GraphicsObject.EnableBytes, GraphicsObject.move_graphics, GraphicsObject.move_delayedGraphics]
  exact h

/-- A record that the bank writes a byte, a decoder set or a delay bit to is none of those on which the invariants fix
it. -/
theorem ObjId.not_mem_of_player {i : ObjId} (h : i ∈ [ObjId.P0, .P1]) : i ∉ [ObjId.M0, .M1, .BL] := by
  fin_cases h <;> decide

theorem ObjId.not_mem_of_sized {i : ObjId} (h : i ∈ [ObjId.P0, .P1, .M0, .M1]) : i ∉ [ObjId.BL, .PF] := by
  fin_cases h <;> decide

theorem ObjId.not_mem_of_delayable {i : ObjId} (h : i ∈ [ObjId.P0, .P1, .BL]) : i ∉ [ObjId.M0, .M1] := by
  fin_cases h <;> decide

/-- Every write of a record keeps its invariants: the bank writes a field only where the record may have it. -/
theorem RecordWrite.legal {i : ObjId} {o p : GraphicsObject} (h : RecordWrite i o p) (ho : o.Legal i) :
    p.Legal i := by
  induction h with
  | none | offset | color | reflected => exact { ho with }
  | decoders hi hd o =>
    exact { ho with
      inRange := GraphicsObject.setDecoders_inRange hd ho.inRange
      decoders := fun hfixed => absurd hfixed (ObjId.not_mem_of_sized hi) }
  | width hn o => exact { ho with inRange := GraphicsObject.setWidth_inRange _ ho.inRange, width := hn }
  | graphics hi b o =>
    exact { ho with
      inRange := GraphicsObject.setGraphics_inRange b ho.inRange
      enableBytes := fun henable => absurd henable (ObjId.not_mem_of_player hi) }
  | enable _ e o =>
    exact { ho with
      inRange := GraphicsObject.setGraphics_inRange _ ho.inRange
      enableBytes := fun henable => GraphicsObject.setEnabled_enableBytes e (ho.enableBytes henable) }
  | delayed hi d o => exact { ho with delayed := fun hmissile => absurd hmissile (ObjId.not_mem_of_delayable hi) }
  | position _ h cyc o => exact { ho with inRange := GraphicsObject.resetPos_inRange h cyc ho.inRange }
  | motion _ o =>
    exact
      { inRange := GraphicsObject.move_inRange ho.inRange
        variant := o.move_variant.trans ho.variant
        width := o.move_width ▸ ho.width
        decoders := fun hfixed => o.move_decoders.trans (ho.decoders hfixed)
        enableBytes := fun henable => GraphicsObject.move_enableBytes (ho.enableBytes henable)
        delayed := fun hmissile => o.move_delayed.trans (ho.delayed hmissile) }
  | trans _ _ hop hpq => exact hpq (hop ho)

/-- A tick keeps them: the copy of an enable byte is an enable byte. -/
theorem tick_legal {i : ObjId} (pf : Playfield) {o : GraphicsObject} (h : o.Legal i) : (tick pf o).2.Legal i where
  inRange := tick_inRange pf h.inRange
  variant := (tick_variant pf o).trans h.variant
  width := tick_width pf o ▸ h.width
  decoders hfixed := (tick_decoders pf o).trans (h.decoders hfixed)
  enableBytes henable := tick_enableBytes pf (h.enableBytes henable)
  delayed hmissile := (tick_delayed pf o).trans (h.delayed hmissile)

/-- Settles O9: the fields of the reset state. -/
theorem resetStateHasTheInvariants : Obligations.ResetStateHasTheInvariants :=
  ⟨Chip.init_inRange, by decide, by decide, by decide⟩

/-- Every event keeps the invariants. -/
theorem exec_inv {i : Instr} {s t : State} (h : exec i s = .next t) (hs : s.chip.Inv) : t.chip.Inv := by
  obtain ⟨hobj, hhor⟩ := s.chip.inv_iff.mp hs
  refine t.chip.inv_iff.mpr ⟨fun o => ?_, exec_horCnt_lt h hhor⟩
  exact exec_obj_induction (P := fun i r => r.Legal i) (Chip.init.inv_iff.mp resetStateHasTheInvariants).1
    (fun _ pf _ => tick_legal pf) (fun _ _ _ hw => hw.legal) h hobj o

/-- Settles O8: a step that answers is idle or one event. -/
theorem stepKeepsTheInvariants : Obligations.StepKeepsTheInvariants := by
  intro s t hs h
  obtain ⟨-, hidle⟩ | ⟨e, rest, i, -, -, hstep⟩ | ⟨e, rest, -, -, hrefused⟩ := step_cases s
  · rw [hidle] at h; cases h; exact hs
  · rw [hstep] at h; exact exec_inv h hs
  · rw [hrefused] at h; cases h

end Sys2Proof.Machine
end

section
/-! SUPPORT. The statements on what an object shows: a missile or the ball (spec/40_graphics_object.md R115), the
playfield's two halves (spec/41_playfield.md R141, R145), and a player over the ticks of one span (R113, R114). -/

namespace Sys2Proof.Machine

/-! ## Missiles and ball -/

/-- The variant tag alone selects the lookup (10 R20), which tests the byte the lookup sees. -/
theorem colorLookup_missileBall (pf : Playfield) {o : GraphicsObject} (h : o.variant = .missile ∨ o.variant = .ball) :
    colorLookup pf o = if o.source = 0x00 then none else some o.color := by
  have hlookup : colorLookup pf o = o.missileBallColor := by
    obtain h | h := h <;> simp only [colorLookup, h]
  rw [hlookup, GraphicsObject.missileBallColor, ite_not]

/-- Settles O24: the lookup of the selected byte, and of the byte an enable write leaves. -/
theorem missileAndBallShowWhereEnabled : Obligations.MissileAndBallShowWhereEnabled := by
  intro pf o hvariant
  refine ⟨colorLookup_missileBall pf hvariant, fun e hdelayed => ?_⟩
  have hsource : (o.setEnabled e).source = if e then 0xFF else 0x00 := by
    rw [GraphicsObject.source, GraphicsObject.setEnabled_delayed, hdelayed]; rfl
  rw [colorLookup_missileBall pf (o := o.setEnabled e) hvariant, hsource]
  cases e <;> rfl

/-! ## The playfield -/

/-- The playfield emits where its dot is lit, in either colour mode. -/
theorem playfieldColor_isSome (pf : Playfield) :
    (playfieldColor pf).isSome = pfBit pf (pfDot pf.reflected pf.posCnt) := by
  rw [playfieldColor]
  split
  · next hlit => rw [hlit]; rfl
  · next hdark => rw [Bool.eq_false_of_not_eq_true hdark]; rfl

/-- A position of the left half and its repetition or mirror image fall on one dot (41 R145). -/
theorem pfDot_rightHalf (reflected : Bool) {x : Nat} (h : x < 80) :
    pfDot reflected (if reflected then 159 - x else x + 80) = pfDot reflected x := by
  rw [pfDot_eq, pfDot_eq]
  cases reflected with
  | false => simp only [Bool.false_eq_true, if_false]; split_ifs <;> omega
  | true => simp only [if_true]; split_ifs <;> omega

/-- Settles O26: the two positions have one dot, and the bit of a dot does not depend on the position. -/
theorem playfieldRightHalfRepeatsOrMirrors : Obligations.PlayfieldRightHalfRepeatsOrMirrors := by
  intro pf x hx
  rw [playfieldColor_isSome, playfieldColor_isSome]
  exact congrArg (pfBit pf) (pfDot_rightHalf pf.reflected hx)

/-- The bits of a blank pattern: of register 0 the high nibble counts. -/
theorem pfBit_of_blank {pf : Playfield} (h0 : pf.reg0.toNat < 16) (h1 : pf.reg1 = 0x00) (h2 : pf.reg2 = 0x00)
    (j : Nat) : pfBit pf j = false := by
  have hnibble : pf.reg0.getLsbD (4 + j) = (0x00 : Byte).getLsbD (4 + j) :=
    getLsbD_of_highNibble_eq (Nat.div_eq_of_lt h0) j
  rw [pfBit, hnibble, h1, h2]
  simp only [BitVec.ofNat_eq_ofNat, BitVec.getLsbD_zero, ite_self]

/-- Settles O27: the bit of every dot is 0, so the lookup is none before it comes to a colour. -/
theorem blankPlayfieldEmitsNothing : Obligations.BlankPlayfieldEmitsNothing := by
  intro pf hvariant h0 h1 h2 _
  rw [colorLookup_playfield hvariant, ← Option.isNone_iff_eq_none, ← Option.not_isSome, playfieldColor_isSome,
    pfBit_of_blank h0 h1 h2]
  rfl

/-! ## Several ticks of one record -/

theorem GraphicsObject.ticked_succ (pf : Playfield) (o : GraphicsObject) (n : Nat) :
    o.ticked pf (n + 1) = (tick pf (o.ticked pf n)).2 :=
  Function.iterate_succ_apply' _ n o

/-- Ticks write the two counters and the latched byte with its countdown. -/
theorem GraphicsObject.ticked_eq (pf : Playfield) (o : GraphicsObject) (n : Nat) :
    o.ticked pf n =
      { o with widthCnt := (o.ticked pf n).widthCnt, posCnt := (o.ticked pf n).posCnt,
               delayedGraphics := (o.ticked pf n).delayedGraphics, delayCnt := (o.ticked pf n).delayCnt } := by
  induction n with
  | zero => rfl
  | succ n ih => rw [ticked_succ, tick_snd, ih]

theorem GraphicsObject.ticked_delayCnt (pf : Playfield) (o : GraphicsObject) (n : Nat) :
    (o.ticked pf n).delayCnt = o.delayCnt - n := by
  induction n with
  | zero => rfl
  | succ n ih => rw [ticked_succ, tick_delayCnt, ih, Nat.sub_sub]

@[simp] theorem GraphicsObject.ticked_graphics (pf : Playfield) (o : GraphicsObject) (n : Nat) :
    (o.ticked pf n).graphics = o.graphics := by rw [ticked_eq]

@[simp] theorem GraphicsObject.ticked_decoders (pf : Playfield) (o : GraphicsObject) (n : Nat) :
    (o.ticked pf n).decoders = o.decoders := by rw [ticked_eq]

/-- The latched byte is the old one until the tick in which the countdown reaches 0 (40 R113). -/
theorem GraphicsObject.ticked_delayedGraphics (pf : Playfield) (o : GraphicsObject) (n : Nat) :
    (o.ticked pf n).delayedGraphics =
      if 1 ≤ o.delayCnt ∧ o.delayCnt ≤ n then o.graphics else o.delayedGraphics := by
  induction n with
  | zero => rw [if_neg (by omega)]; rfl
  | succ n ih =>
    rw [ticked_succ, tick_delayedGraphics, GraphicsObject.latched, ticked_delayCnt, ticked_graphics, ih]
    by_cases hcopy : o.delayCnt - n = 1
    · rw [if_pos hcopy, if_pos (by omega)]
    · rw [if_neg hcopy]; exact if_congr (by omega) rfl rfl

/-- The position after at least one tick, from every record. -/
theorem GraphicsObject.ticked_succ_posCnt (pf : Playfield) (o : GraphicsObject) (n : Nat) :
    (o.ticked pf (n + 1)).posCnt = (o.posCnt + (n + 1)) % Config.lineWidth := by
  have hfirst : (((tick pf o).2).ticked pf n).posCnt = ((tick pf o).2.posCnt + n) % Config.lineWidth :=
    GraphicsObject.ticked_posCnt pf n (tick_posCnt_lt pf o)
  rw [tick_posCnt, Nat.mod_add_mod, Nat.add_right_comm, Nat.add_assoc] at hfirst
  exact hfirst

/-! ## A span of a player -/

/-- From a decoder match on, met by no further decoder, the countdown that a lookup sees falls by one a tick. -/
theorem GraphicsObject.ticked_loaded {pf : Playfield} {o : GraphicsObject} {k : Nat} (hmatch : o.posCnt ∈ o.decoders)
    (halone : ∀ j, 0 < j → j < o.width → (o.posCnt + j) % 160 ∉ o.decoders) (hk : k < o.width) :
    (o.ticked pf k).loaded = o.width - k := by
  induction k with
  | zero => exact if_pos hmatch
  | succ k ih =>
    have hno : (o.ticked pf (k + 1)).posCnt ∉ (o.ticked pf (k + 1)).decoders := by
      rw [ticked_succ_posCnt, ticked_decoders]
      exact halone (k + 1) (Nat.succ_pos k) hk
    rw [GraphicsObject.loaded, if_neg hno, ticked_succ, tick_widthCnt, ih (by omega), Nat.sub_sub]

/-- The record that the lookup of the `k`-th tick of a span sees. -/
def GraphicsObject.seenInSpan (pf : Playfield) (k : Nat) (o : GraphicsObject) : GraphicsObject :=
  { o with
    widthCnt := o.width - k
    posCnt := (o.ticked pf k).posCnt
    delayCnt := o.delayCnt - (k + 1)
    delayedGraphics := if 1 ≤ o.delayCnt ∧ o.delayCnt ≤ k + 1 then o.graphics else o.delayedGraphics }

theorem tick_fst_of_span {pf : Playfield} {o : GraphicsObject} {k : Nat} (hmatch : o.posCnt ∈ o.decoders)
    (halone : ∀ j, 0 < j → j < o.width → (o.posCnt + j) % 160 ∉ o.decoders) (hk : k < o.width) :
    (tick pf (o.ticked pf k)).1 = colorLookup pf (o.seenInSpan pf k) := by
  have hlatched : (o.ticked pf k).latched = (o.ticked pf (k + 1)).delayedGraphics := by
    rw [GraphicsObject.ticked_succ, tick_delayedGraphics]
  rw [tick_fst, GraphicsObject.ticked_loaded hmatch halone hk, if_pos (by omega), hlatched,
    GraphicsObject.ticked_delayedGraphics, GraphicsObject.ticked_delayCnt, Nat.sub_sub, GraphicsObject.ticked_eq]
  rfl

/-- The byte it shows: the latched one only where the player is delayed and the countdown has not reached 0. -/
theorem GraphicsObject.seenInSpan_source (pf : Playfield) (k : Nat) (o : GraphicsObject) :
    (o.seenInSpan pf k).source =
      if o.delayed ∧ ¬ (1 ≤ o.delayCnt ∧ o.delayCnt ≤ k + 1) then o.delayedGraphics else o.graphics := by
  show (if o.delayed then
      if 1 ≤ o.delayCnt ∧ o.delayCnt ≤ k + 1 then o.graphics else o.delayedGraphics else o.graphics) = _
  by_cases hdelayed : o.delayed = true
  · simp only [hdelayed, if_true, true_and, ite_not]
  · rw [if_neg hdelayed, if_neg fun h => hdelayed h.1]

/-- The bit index falls by one every `m` ticks of a span of `8 * m` (40 R114, R116). -/
theorem spanIndex_eq {m k : Nat} (hm : m = 1 ∨ m = 2 ∨ m = 4) (hk : k < 8 * m) :
    8 * (8 * m - k - 1) / (8 * m) = 7 - k / m := by
  obtain rfl | rfl | rfl := hm <;> omega

/-- Its mirror image rises. -/
theorem mirrored_spanIndex {m k : Nat} (hk : k < 8 * m) : 7 - (7 - k / m) = k / m := by
  have hlt : k / m < 8 := Nat.div_lt_of_lt_mul (by rwa [Nat.mul_comm] at hk)
  exact Nat.sub_sub_self (Nat.le_of_lt_succ hlt)

/-- The bit it shows: every bit of the byte for `m` ticks, bit 7 first, or bit 0 first where reflected. -/
theorem GraphicsObject.seenInSpan_playerIndex {pf : Playfield} {o : GraphicsObject} {m k : Nat}
    (hm : m = 1 ∨ m = 2 ∨ m = 4) (hwidth : o.width = 8 * m) (hk : k < o.width) :
    (o.seenInSpan pf k).playerIndex = if o.reflected then k / m else 7 - k / m := by
  rw [hwidth] at hk
  simp only [GraphicsObject.playerIndex, GraphicsObject.seenInSpan, hwidth, spanIndex_eq hm hk,
    mirrored_spanIndex hk]

/-- Settles O23: the Player's lookup on the record that the tick sees. -/
theorem playerSpanShowsItsBitmap : Obligations.PlayerSpanShowsItsBitmap := by
  intro pf o m k hplayer hm hwidth hmatch halone hk shown
  rw [tick_fst_of_span hmatch halone hk, colorLookup_player pf (o := o.seenInSpan pf k) hplayer,
    GraphicsObject.playerColor, GraphicsObject.seenInSpan_source, GraphicsObject.seenInSpan_playerIndex hm hwidth hk]
  rfl

end Sys2Proof.Machine
end

section
/-! SUPPORT. The statements on a run of colour clocks after one write (spec/42_scan_timing.md R153, R157;
spec/70_reset_and_hazards.md R312, R327): the release of a halted CPU, and the copy of a written byte. Both are the end
of a countdown in colour clocks. -/

namespace Sys2Proof.Machine

/-! ## Countdowns -/

/-- A step that keeps `P` and lowers the count by one, as long as the count is above 1, does so over every run shorter
than the count. -/
theorem iterate_countdown {α : Type} {f : α → α} {P : α → Prop} {count : α → Nat}
    (hstep : ∀ a, P a → 1 < count a → P (f a) ∧ count (f a) + 1 = count a) {a : α} (ha : P a) {k : Nat}
    (hk : k < count a) : P (f^[k] a) ∧ count (f^[k] a) + k = count a := by
  induction k with
  | zero => exact ⟨ha, rfl⟩
  | succ k ih =>
    obtain ⟨hP, hcount⟩ := ih (by omega)
    obtain ⟨hP', hcount'⟩ := hstep _ hP (by omega)
    rw [Function.iterate_succ_apply']
    exact ⟨hP', by omega⟩

/-- After the run whose length is the count, one step has been taken from a count of 1. -/
theorem iterate_countdown_last {α : Type} {f : α → α} {P Q : α → Prop} {count : α → Nat}
    (hstep : ∀ a, P a → 1 < count a → P (f a) ∧ count (f a) + 1 = count a)
    (hlast : ∀ a, P a → count a = 1 → Q (f a)) {a : α} (ha : P a) (hpos : 0 < count a) : Q (f^[count a] a) := by
  obtain ⟨n, hn⟩ := Nat.exists_eq_succ_of_ne_zero hpos.ne'
  obtain ⟨hP, hcount⟩ := iterate_countdown hstep ha (k := n) (by omega)
  rw [hn, Function.iterate_succ_apply']
  exact hlast _ hP (by omega)

/-- An event that completes, and then `k` colour clocks. -/
theorem execAll_cons_clocks {i : Instr} {s t : State} (h : exec i s = .next t) (k : Nat) :
    execAll (i :: List.replicate k .clk) s = .next (State.colorClock^[k] t) :=
  (execAll_cons_next h).trans (clocks_eq k t)

/-! ## The beam of one clock, in numbers -/

theorem State.colorClock_horCnt_of_lt {s : State} (h : s.chip.horCnt < 227) :
    s.colorClock.chip.horCnt = s.chip.horCnt + 1 := by
  rw [State.colorClock_horCnt, Chip.advance_horCnt]
  exact if_neg (by simp only [Config.lineTotal, Config.lineStart, Config.lineWidth]; omega)

theorem State.colorClock_horCnt_of_wrap {s : State} (h : s.chip.horCnt = 227) : s.colorClock.chip.horCnt = 0 := by
  rw [State.colorClock_horCnt, Chip.advance_horCnt, h]; rfl

theorem State.colorClock_verCnt_of_lt {s : State} (h : s.chip.horCnt < 227) :
    s.colorClock.chip.verCnt = s.chip.verCnt := by
  rw [State.colorClock_verCnt, Chip.advance_verCnt]
  exact if_neg (by simp only [Config.lineTotal, Config.lineStart, Config.lineWidth]; omega)

theorem State.colorClock_verCnt_of_wrap {s : State} (h : s.chip.horCnt = 227) :
    s.colorClock.chip.verCnt = s.chip.verCnt + 1 := by
  rw [State.colorClock_verCnt, Chip.advance_verCnt, h]; rfl

/-! ## The release of a halted CPU -/

/-- A resume is pending that will still fire on this line (42 R153). -/
abbrev Chip.PendingHere (c : Chip) : Prop := c.wsyncNextLine = true ∧ c.horCnt < 6

/-- The colour clocks until the resume strobe of a halted block fires. -/
def Chip.releaseIn (c : Chip) : Nat := if c.PendingHere then 6 - c.horCnt else 234 - c.horCnt

/-- The line on which it fires. -/
def Chip.releaseLine (c : Chip) : Nat := if c.PendingHere then c.verCnt else c.verCnt + 1

/-- A halted block that has put out `n` Resume events and will be released on line `line`. -/
structure State.Waiting (line n : Nat) (s : State) : Prop where
  halted : s.chip.halt = true
  beam : s.chip.horCnt < 228
  line_eq : s.chip.releaseLine = line
  resumes_eq : s.outputs.count .resume = n

/-- The strobe fires in the next clock exactly where the count is 1. -/
theorem State.resumes_iff_releaseIn {s : State} (h : s.chip.horCnt < 228) :
    s.chip.advance.resumes = true ↔ s.chip.releaseIn = 1 := by
  have hbeam : s.colorClock.chip.horCnt = 6 ↔ s.chip.horCnt = 5 := by
    obtain hlt | hwrap : s.chip.horCnt < 227 ∨ s.chip.horCnt = 227 := by omega
    · rw [State.colorClock_horCnt_of_lt hlt]; omega
    · rw [State.colorClock_horCnt_of_wrap hwrap]; omega
  rw [State.resumes_iff, hbeam, Chip.releaseIn]
  by_cases hpending : s.chip.PendingHere
  · rw [if_pos hpending]
    obtain ⟨hflag, hhor⟩ := hpending
    simp only [hflag, and_true]
    omega
  · rw [if_neg hpending]
    have hnot : ¬ (s.chip.horCnt = 5 ∧ s.chip.wsyncNextLine = true) := fun h => hpending ⟨h.2, by omega⟩
    simp only [hnot, false_iff]
    omega

/-- The flag after a clock in which the strobe does not fire. -/
theorem State.colorClock_wsyncNextLine_of_lt {s : State} (hresumes : ¬ s.chip.advance.resumes = true)
    (h : s.chip.horCnt < 227) : s.colorClock.chip.wsyncNextLine = s.chip.wsyncNextLine := by
  have hnowrap : s.chip.horCnt + 1 ≠ Config.lineTotal := by
    simp only [Config.lineTotal, Config.lineStart, Config.lineWidth]; omega
  rw [State.colorClock_wsyncNextLine, if_neg hresumes, Chip.advance_wsyncNextLine, decide_eq_false hnowrap,
    Bool.false_and, Bool.or_false]

theorem State.colorClock_wsyncNextLine_of_wrap {s : State} (hresumes : ¬ s.chip.advance.resumes = true)
    (h : s.chip.horCnt = 227) (hhalt : s.chip.halt = true) : s.colorClock.chip.wsyncNextLine = true := by
  rw [State.colorClock_wsyncNextLine, if_neg hresumes, Chip.advance_wsyncNextLine, hhalt, h]
  exact Bool.or_true _

/-- Where the strobe does not fire, the count falls by one and the line of the release stays; a wrap arms the flag on
the way. -/
theorem State.colorClock_release {s : State} (hhalt : s.chip.halt = true) (hbeam : s.chip.horCnt < 228)
    (hcount : 1 < s.chip.releaseIn) :
    s.colorClock.chip.releaseIn + 1 = s.chip.releaseIn ∧ s.colorClock.chip.releaseLine = s.chip.releaseLine := by
  have hresumes : ¬ s.chip.advance.resumes = true := by rw [State.resumes_iff_releaseIn hbeam]; omega
  obtain hlt | hwrap : s.chip.horCnt < 227 ∨ s.chip.horCnt = 227 := by omega
  · have hpending : s.colorClock.chip.PendingHere ↔ s.chip.PendingHere := by
      rw [Chip.releaseIn] at hcount
      rw [Chip.PendingHere, State.colorClock_horCnt_of_lt hlt, State.colorClock_wsyncNextLine_of_lt hresumes hlt]
      refine and_congr_right fun hflag => ⟨fun h => by omega, fun h => ?_⟩
      rw [if_pos ⟨hflag, h⟩] at hcount
      omega
    simp only [Chip.releaseIn, Chip.releaseLine, hpending, State.colorClock_horCnt_of_lt hlt,
      State.colorClock_verCnt_of_lt hlt, and_true]
    split <;> omega
  · have hpending : s.colorClock.chip.PendingHere :=
      ⟨State.colorClock_wsyncNextLine_of_wrap hresumes hwrap hhalt,
        by rw [State.colorClock_horCnt_of_wrap hwrap]; decide⟩
    have hnow : ¬ s.chip.PendingHere := fun h => by have := h.2; omega
    rw [Chip.releaseIn, Chip.releaseIn, Chip.releaseLine, Chip.releaseLine, if_pos hpending, if_pos hpending,
      if_neg hnow, if_neg hnow, State.colorClock_horCnt_of_wrap hwrap, State.colorClock_verCnt_of_wrap hwrap, hwrap]
    exact ⟨rfl, rfl⟩

/-- A waiting block whose count is above 1 waits on. -/
theorem State.Waiting.colorClock {line n : Nat} {s : State} (h : s.Waiting line n) (hcount : 1 < s.chip.releaseIn) :
    s.colorClock.Waiting line n ∧ s.colorClock.chip.releaseIn + 1 = s.chip.releaseIn := by
  obtain ⟨hfalls, hline⟩ := State.colorClock_release h.halted h.beam hcount
  have hresumes : ¬ s.chip.advance.resumes = true := by rw [State.resumes_iff_releaseIn h.beam]; omega
  refine ⟨⟨?_, State.colorClock_horCnt_lt h.beam, hline.trans h.line_eq, ?_⟩, hfalls⟩
  · rw [State.colorClock_halt, if_neg hresumes, h.halted]
  · rw [State.colorClock_count_resume, if_neg hresumes, h.resumes_eq, Nat.add_zero]

/-- A block just released on line `line`, with `n` Resume events put out. -/
structure State.Released (line n : Nat) (s : State) : Prop where
  horCnt : s.chip.horCnt = 6
  verCnt : s.chip.verCnt = line
  running : s.chip.halt = false
  disarmed : s.chip.wsyncNextLine = false
  resumes_eq : s.outputs.count .resume = n

/-- A waiting block whose count is 1 is released by the next clock. -/
theorem State.Waiting.released {line n : Nat} {s : State} (h : s.Waiting line n) (hcount : s.chip.releaseIn = 1) :
    s.colorClock.Released line (n + 1) := by
  have hresumes := (State.resumes_iff_releaseIn h.beam).mpr hcount
  have hbeam := h.beam
  have hpending : s.chip.PendingHere := by
    by_contra hnot
    rw [Chip.releaseIn, if_neg hnot] at hcount
    omega
  have hlt : s.chip.horCnt < 227 := by have := hpending.2; omega
  refine ⟨(s.resumes_iff.mp hresumes).1, ?_, ?_, ?_, ?_⟩
  · rw [State.colorClock_verCnt_of_lt hlt, ← h.line_eq, Chip.releaseLine, if_pos hpending]
  · rw [State.colorClock_halt, if_pos hresumes]
  · rw [State.colorClock_wsyncNextLine, if_pos hresumes]
  · rw [State.colorClock_count_resume, if_pos hresumes, h.resumes_eq]

/-- The meaning of WSYNC (42 R162). -/
theorem exec_wsync (v : Byte) (s : State) :
    exec (.wsync v) s = .next (s.updChip fun c => { c with halt := true }) := rfl

/-- A WSYNC leaves a waiting block. -/
theorem State.waiting_of_halt {s : State} (h : s.chip.horCnt < 228) :
    (s.updChip fun c => { c with halt := true }).Waiting s.chip.releaseLine (s.outputs.count .resume) :=
  ⟨rfl, h, rfl, rfl⟩

theorem Chip.releaseIn_pos {c : Chip} (h : c.horCnt < 228) : 0 < c.releaseIn := by
  rw [Chip.releaseIn]
  split
  · next hpending => exact Nat.sub_pos_of_lt hpending.2
  · omega

/-- Settles O32: a WSYNC leaves a waiting block, whose count runs down and releases it. -/
theorem wsyncReleasesOnTheFollowingLine : Obligations.WsyncReleasesOnTheFollowingLine := by
  intro v s hbeam pending n
  have hwaiting := State.waiting_of_halt hbeam
  have hstep (u : State) (hu : u.Waiting s.chip.releaseLine (s.outputs.count .resume)) := hu.colorClock
  refine ⟨fun k hk => ⟨_, execAll_cons_clocks (exec_wsync v s) k, ?_⟩,
    _, execAll_cons_clocks (exec_wsync v s) n, ?_⟩
  · obtain ⟨hstill, -⟩ := iterate_countdown (count := fun u : State => u.chip.releaseIn) hstep hwaiting hk
    exact ⟨hstill.halted, hstill.resumes_eq⟩
  · obtain ⟨hhor, hver, hrunning, hdisarmed, hresumes⟩ :=
      iterate_countdown_last (count := fun u : State => u.chip.releaseIn) hstep (fun _ hu => hu.released) hwaiting
        (Chip.releaseIn_pos hbeam)
    exact ⟨hhor, hver, hrunning, hdisarmed, hresumes⟩

/-! ## The copy of a written byte -/

/-- The colour clocks until the tick in which an armed latch of record `o` copies: its ticks, and the blank before
them. -/
def Chip.copyIn (o : ObjId) (c : Chip) : Nat :=
  (c.obj o).delayCnt +
    if c.horCnt < 68 then 67 - c.horCnt else if (c.obj o).delayCnt ≤ 227 - c.horCnt then 0 else 68

/-- A record whose latch is armed with the byte `b` and still holds the byte `old`. -/
structure State.Armed (o : ObjId) (b old : Byte) (s : State) : Prop where
  beam : s.chip.horCnt < 228
  graphics : (s.chip.obj o).graphics = b
  delayedGraphics : (s.chip.obj o).delayedGraphics = old
  armed : 0 < (s.chip.obj o).delayCnt
  bounded : (s.chip.obj o).delayCnt ≤ 160

/-- A clock at whose end the beam is in the window is a tick of the record. -/
theorem State.colorClock_obj_of_visible {s : State} (o : ObjId) (hlow : 67 ≤ s.chip.horCnt)
    (hhigh : s.chip.horCnt < 227) : s.colorClock.chip.obj o = (tick s.chip.pf (s.chip.obj o)).2 := by
  rw [State.colorClock_obj, State.colorClock_horCnt_of_lt hhigh]
  exact if_pos (Nat.succ_le_succ hlow)

theorem State.colorClock_obj_of_blank {s : State} (o : ObjId) (h : s.chip.horCnt < 67 ∨ s.chip.horCnt = 227) :
    s.colorClock.chip.obj o = s.chip.obj o := by
  rw [State.colorClock_obj]
  refine if_neg ?_
  obtain hlow | hwrap := h
  · rw [State.colorClock_horCnt_of_lt (by omega), Config.lineStart]; omega
  · rw [State.colorClock_horCnt_of_wrap hwrap]; decide

/-- The count is 1 exactly where the next clock is the last tick of the countdown. -/
theorem State.Armed.copyIn_eq_one_iff {o : ObjId} {b old : Byte} {s : State} (h : s.Armed o b old) :
    s.chip.copyIn o = 1 ↔ (s.chip.obj o).delayCnt = 1 ∧ 67 ≤ s.chip.horCnt ∧ s.chip.horCnt < 227 := by
  obtain ⟨hbeam, -, -, harmed, -⟩ := h
  rw [Chip.copyIn]
  split_ifs <;> omega

/-- An armed record whose count is above 1 stays armed. -/
theorem State.Armed.colorClock {o : ObjId} {b old : Byte} {s : State} (h : s.Armed o b old)
    (hcount : 1 < s.chip.copyIn o) :
    s.colorClock.Armed o b old ∧ s.colorClock.chip.copyIn o + 1 = s.chip.copyIn o := by
  have hlast := mt h.copyIn_eq_one_iff.mpr (by omega)
  obtain ⟨hbeam, hgraphics, hdelayed, harmed, hbounded⟩ := h
  by_cases hvisible : 67 ≤ s.chip.horCnt ∧ s.chip.horCnt < 227
  · have hobj := State.colorClock_obj_of_visible o hvisible.1 hvisible.2
    have hmore : (s.chip.obj o).delayCnt ≠ 1 := fun h1 => hlast ⟨h1, hvisible⟩
    have hlatched : (s.chip.obj o).latched = old := by rw [GraphicsObject.latched, if_neg hmore, hdelayed]
    constructor
    · refine ⟨State.colorClock_horCnt_lt hbeam, ?_, ?_, ?_, ?_⟩
      · rw [hobj, tick_graphics, hgraphics]
      · rw [hobj, tick_delayedGraphics, hlatched]
      · rw [hobj, tick_delayCnt]; omega
      · rw [hobj, tick_delayCnt]; omega
    · rw [Chip.copyIn, Chip.copyIn, hobj, tick_delayCnt, State.colorClock_horCnt_of_lt hvisible.2]
      split_ifs <;> omega
  · have hblank : s.chip.horCnt < 67 ∨ s.chip.horCnt = 227 := by omega
    have hobj := State.colorClock_obj_of_blank o hblank
    refine ⟨⟨State.colorClock_horCnt_lt hbeam, hobj ▸ hgraphics, hobj ▸ hdelayed, hobj ▸ harmed, hobj ▸ hbounded⟩, ?_⟩
    rw [Chip.copyIn, Chip.copyIn, hobj]
    obtain hlow | hwrap := hblank
    · rw [State.colorClock_horCnt_of_lt (by omega)]
      split_ifs <;> omega
    · rw [State.colorClock_horCnt_of_wrap hwrap, hwrap]
      split_ifs <;> omega

/-- A record whose latch has copied the byte `b` and is armed no more. -/
structure State.Copied (o : ObjId) (b : Byte) (s : State) : Prop where
  delayedGraphics : (s.chip.obj o).delayedGraphics = b
  disarmed : (s.chip.obj o).delayCnt = 0

/-- An armed record whose count is 1 copies in the next clock. -/
theorem State.Armed.copied {o : ObjId} {b old : Byte} {s : State} (h : s.Armed o b old)
    (hcount : s.chip.copyIn o = 1) : s.colorClock.Copied o b := by
  obtain ⟨hone, hlow, hhigh⟩ := h.copyIn_eq_one_iff.mp hcount
  have hobj := State.colorClock_obj_of_visible o hlow hhigh
  constructor
  · rw [hobj, tick_delayedGraphics, GraphicsObject.latched, if_pos hone, h.graphics]
  · rw [hobj, tick_delayCnt, hone]

/-- The five writes that arm a latch, with the record and the byte (45 R221 to R225). -/
def armingWrites (v : Byte) : List (Instr × ObjId × Byte) :=
  let e : Byte := if v.toNat / 2 % 2 = 1 then 0xFF else 0x00
  [(.grp0 v, .P0, v), (.grp1 v, .P1, v), (.enam0 v, .M0, e), (.enam1 v, .M1, e), (.enabl v, .BL, e)]

/-- Each is a graphics write of its byte to its record. -/
theorem exec_armingWrite {v b : Byte} {i : Instr} {o : ObjId} (h : (i, o, b) ∈ armingWrites v) (s : State) :
    exec i s = .next (s.updChip fun c => c.modObj (GraphicsObject.setGraphics b) o) := by
  simp only [armingWrites, List.mem_cons, Prod.mk.injEq, List.not_mem_nil, or_false] at h
  obtain ⟨rfl, rfl, rfl⟩ | ⟨rfl, rfl, rfl⟩ | ⟨rfl, rfl, rfl⟩ | ⟨rfl, rfl, rfl⟩ | ⟨rfl, rfl, rfl⟩ := h
  · rfl
  · rfl
  · rw [← setEnabled_enableBit]; rfl
  · rw [← setEnabled_enableBit]; rfl
  · rw [← setEnabled_enableBit]; rfl

/-- A graphics write leaves an armed record with the whole countdown before it. -/
theorem State.armed_of_setGraphics {s : State} (h : s.chip.horCnt < 228) (b : Byte) (o : ObjId) :
    (s.updChip fun c => c.modObj (GraphicsObject.setGraphics b) o).Armed o b (s.chip.obj o).delayedGraphics := by
  have hobj : (s.chip.modObj (GraphicsObject.setGraphics b) o).obj o = (s.chip.obj o).setGraphics b :=
    Chip.modObj_obj_same _ _ _
  refine ⟨(Chip.modObj_horCnt _ _ _).trans_lt h, ?_, ?_, ?_, ?_⟩ <;> rw [State.updChip_chip, hobj]
  · exact GraphicsObject.setGraphics_graphics _ _
  · exact GraphicsObject.setGraphics_delayedGraphics _ _
  · exact Nat.zero_lt_succ _
  · exact Nat.le_refl _

theorem Chip.copyIn_setGraphics {c : Chip} (h : c.horCnt < 228) (b : Byte) (o : ObjId) :
    (c.modObj (GraphicsObject.setGraphics b) o).copyIn o = if 68 ≤ c.horCnt then 228 else 227 - c.horCnt := by
  rw [Chip.copyIn, Chip.modObj_obj_same, Chip.modObj_horCnt, GraphicsObject.setGraphics_delayCnt, delayLen,
    Config.lineWidth]
  split_ifs <;> omega

/-- Settles O55: an arming write leaves an armed record, whose count runs down to the copy. -/
theorem delayLatchCopiesAfterOneLine : Obligations.DelayLatchCopiesAfterOneLine := by
  intro v s hbeam e n i o b hwrite
  have hexec := exec_armingWrite hwrite s
  have harmed := State.armed_of_setGraphics hbeam b o
  have hcount : (s.chip.modObj (GraphicsObject.setGraphics b) o).copyIn o = n := Chip.copyIn_setGraphics hbeam b o
  have hstep (u : State) (hu : u.Armed o b (s.chip.obj o).delayedGraphics) := hu.colorClock
  refine ⟨fun k hk => ⟨_, execAll_cons_clocks hexec k, ?_⟩, _, execAll_cons_clocks hexec n, ?_⟩
  · obtain ⟨hstill, -⟩ :=
      iterate_countdown (count := fun u : State => u.chip.copyIn o) hstep harmed (hk.trans_eq hcount.symm)
    exact ⟨hstill.delayedGraphics, hstill.armed⟩
  · obtain ⟨hcopied, hdisarmed⟩ :=
      iterate_countdown_last (count := fun u : State => u.chip.copyIn o) hstep (fun _ hu => hu.copied) harmed
        (Nat.add_pos_left harmed.armed _)
    rw [State.updChip_chip, hcount] at hcopied hdisarmed
    exact ⟨hcopied, hdisarmed⟩

end Sys2Proof.Machine
end
